-- ==== Sys2Proof/Word.lean ====
section
/-! DEFINITION. The word types of the AD370: bytes of frames and journal pages, grain masks, notice flags. -/

namespace Sys2Proof

/-- One byte of a frame, an order or a journal page (chapter 11). -/
abbrev Byte := BitVec 8

/-- A grain mask over an extent: position `i` stands for the grain at offset `i` (section 6.4 of the overview). -/
abbrev Mask := BitVec 64

/-- One flag for each notice code, bit `n` for code `n` (section 11.6). -/
abbrev NoticeFlags := BitVec 16

end Sys2Proof
end

