-- ==== Sys2Proof/Config.lean ====
section
/-! DEFINITION. The part's fixed sizes. The spec leaves no result of a command undefined, so there is no free
value here; every quantity that a master sets is a parameter or a size held in State. -/

namespace Sys2Proof.Config

/-- Record places of the map memory (section 1.2). -/
def recordPlaces : Nat := 16384

/-- Requests a link may hold accepted and unanswered (R190). -/
def linkCredits : Nat := 8

/-- Handles of the write table (R62). -/
def handles : Nat := 32

/-- Staging windows, and so jobs (R88, R115). -/
def windows : Nat := 8

/-- Page images the journal holds at once (R148). -/
def pageImages : Nat := 3

/-- Payload bytes of a journal page (section 7.2). -/
def payloadBytes : Nat := 4064

/-- Pages of the ring kept back from ordinary entries during a pass (R145). -/
def passReserve : Nat := 1024

/-- Live records at which the sweep begins to forget by density (R102). -/
def occupancyThreshold : Nat := 15360

/-- Entries of the candidate list and of the victim list (R92, R96). -/
def candidateEntries : Nat := 64
def victimEntries : Nat := 32

/-- The largest 32-bit value: the last JSN before the count goes on at 1 (R142), the last PSN (R143), the limit of
the epoch counter (R31) and of the untracked-touch count (R17). -/
def top32 : Nat := 4294967295

end Sys2Proof.Config
end

