-- ==== Sys2Proof/Syntax.lean ====
section
/-! DEFINITION. The commands of the AD370: request frames as they arrive, the requests they spell, and `Instr`, one
constructor for each row of spec/opcode_table.json. -/

namespace Sys2Proof

/-- The three request links (section 3.2 of the overview). -/
inductive Link where
  | iLink
  | dLink
  | fLink
  deriving DecidableEq, Repr

/-- A request frame: the kind code and the tag byte of its header, and its body (section 11.1). The body length of the
header is the length of `body`. -/
structure Frame where
  kind : Byte
  tag  : Byte
  body : List Byte
  deriving DecidableEq, Repr

/-- A request, its fields read from the frame's body by the layout of its kind (section 11.1). Codes stay numbers,
since a code that is not defined is answered by the request's own rule (R202). -/
inductive Request where
  | locate (first count : Nat)
  | writeOpen (first count : Nat)
  | writeClose (handle gen outcome : Nat)
  | discard (first count : Nat)
  | pin (first count : Nat)
  | unpin (first count : Nat)
  | sync
  | power (mode : Nat)
  | reset
  | spindle (state : Nat)
  | fetch
  | finish (order gen outcome : Nat) (image : Option (List Byte))
  | attach (pages : Nat)
  | format (slots grains : Nat)
  | retire (slot : Nat)
  | setParam (param value : Nat)
  | getParam (param : Nat)
  | status
  | getNotice
  deriving DecidableEq, Repr

/-- The commands. A frame arrives as the bytes that the link carries, header first. A request command carries the tag
and the fields of its frame; a request that several links take carries its link. `corrected` is the number of map
memory words that the command's reads find with one bit in error (R189); every command whose step reads the map memory
has it (log 7), and one written without it corrects no word. -/
inductive Instr where
  | frameArrival (link : Link) (bytes : List Byte)
  | locate (tag first count corrected : Nat)
  | writeOpen (tag first count corrected : Nat)
  | writeClose (tag handle gen outcome : Nat) (corrected : Nat := 0)
  | discard (tag first count : Nat) (corrected : Nat := 0)
  | pin (tag first count : Nat) (corrected : Nat := 0)
  | unpin (tag first count : Nat) (corrected : Nat := 0)
  | sync (tag : Nat) (corrected : Nat := 0)
  | power (tag mode : Nat) (corrected : Nat := 0)
  | reset (tag : Nat) (corrected : Nat := 0)
  | setParam (link : Link) (tag param value : Nat) (corrected : Nat := 0)
  | getParam (link : Link) (tag param : Nat)
  | status (link : Link) (tag corrected : Nat)
  | getNotice (link : Link) (tag : Nat)
  | spindle (tag state : Nat) (corrected : Nat := 0)
  | fetch (link : Link) (tag : Nat) (corrected : Nat := 0)
  | finish (link : Link) (tag order gen outcome : Nat) (image : Option (List Byte)) (corrected : Nat := 0)
  | attach (tag pages : Nat) (corrected : Nat := 0)
  | format (tag slots grains : Nat) (corrected : Nat := 0)
  | retire (tag slot : Nat) (corrected : Nat := 0)
  | epochTick (corrected : Nat := 0)
  | writeTimeout (handle : Nat) (corrected : Nat := 0)
  | heldTimeoutClose (handle : Nat) (corrected : Nat := 0)
  | lingerExpiry (corrected : Nat := 0)
  /-- PFWn goes to the level given (`true` is low) and VDD to `vdd` millivolts. -/
  | warningStart (pfwnLow : Bool) (vdd : Nat) (corrected : Nat := 0)
  | clearingFilter (pfwnLow : Bool) (vdd : Nat)
  | warningClear
  /-- VDD has stayed below 4.20 V for `nanos` nanoseconds, at `vdd` millivolts at its lowest. -/
  | brownOut (vdd nanos : Nat)
  /-- VDD has come to `vdd` millivolts. -/
  | coldStart (vdd : Nat)
  /-- RSTn has been low for `nanos` nanoseconds. -/
  | rstnLow (nanos : Nat)
  | warmStart (corrected : Nat := 0)
  | retainWake (link : Link) (corrected : Nat)
  | hibernateWake (link : Link)
  | refresh
  | mapLoss (corrected : Nat)
  | promotionStart (corrected : Nat := 0)
  | victimRelease (corrected : Nat := 0)
  | writebackStart (corrected : Nat := 0)
  | sweepVisit (corrected : Nat := 0)
  | completingJobCompletion (corrected : Nat := 0)
  | ckptBegin (corrected : Nat := 0)
  | ckptRecord (corrected : Nat := 0)
  | ckptRetired (corrected : Nat := 0)
  | ckptEnd (corrected : Nat := 0)
  | withdrawal (corrected : Nat := 0)
  | waitingRetirementRelease (record : Nat) (corrected : Nat := 0)
  deriving DecidableEq, Repr

end Sys2Proof
end

