-- ==== Sys2Proof/WellFormed.lean ====
section
/-! DEFINITION. Which commands a frame or a pin can carry: every field fits the bytes that its layout gives it
(section 11.1, R202), and a page image is one page long. -/

namespace Sys2Proof

/-- The range fields of LOCATE, WRITE_OPEN, DISCARD, PIN and UNPIN: 4 bytes and 1 byte. -/
def rangeFits (first count : Nat) : Bool := decide (first < 2 ^ 32) && decide (count < 256)

/-- A request whose fields fit its body. -/
def Request.fits : Request → Bool
  | .locate g n | .writeOpen g n | .discard g n | .pin g n | .unpin g n => rangeFits g n
  | .writeClose h g o => decide (h < 256) && decide (g < 256) && decide (o < 256)
  | .sync | .reset | .fetch | .status | .getNotice => true
  | .power m => decide (m < 256)
  | .spindle v => decide (v < 256)
  | .finish id g o img =>
    decide (id < 256) && decide (g < 256) && decide (o < 256) &&
      (match img with
       | none => true
       | some b => decide (b.length = 4096))
  | .attach p => decide (p < 2 ^ 32)
  | .format a b => decide (a < 2 ^ 32) && decide (b < 2 ^ 32)
  | .retire n => decide (n < 2 ^ 32)
  | .setParam p v => decide (p < 256) && decide (v < 2 ^ 32)
  | .getParam p => decide (p < 256)

/-- A frame whose body length fits the 2 bytes of its header. -/
def Frame.fits (f : Frame) : Bool := decide (f.body.length < 2 ^ 16)

/-- Bytes that a link can carry as one request frame: a header of kind, tag and a 2-byte body length, and a body as
long as the header says (section 11.1). -/
def frameWhole : List Byte → Bool
  | _ :: _ :: low :: high :: body => decide (body.length = low.toNat + 256 * high.toNat)
  | _ => false

/-- The request, its link and its tag that a request command presents; `none` for the other commands. -/
def Instr.request : Instr → Option (Link × Nat × Request)
  | .locate t g n _ => some (.iLink, t, .locate g n)
  | .writeOpen t g n _ => some (.iLink, t, .writeOpen g n)
  | .writeClose t h g o _ => some (.iLink, t, .writeClose h g o)
  | .discard t g n _ => some (.iLink, t, .discard g n)
  | .pin t g n _ => some (.iLink, t, .pin g n)
  | .unpin t g n _ => some (.iLink, t, .unpin g n)
  | .sync t _ => some (.iLink, t, .sync)
  | .power t m _ => some (.iLink, t, .power m)
  | .reset t _ => some (.iLink, t, .reset)
  | .setParam l t p v _ => some (l, t, .setParam p v)
  | .getParam l t p => some (l, t, .getParam p)
  | .status l t _ => some (l, t, .status)
  | .getNotice l t => some (l, t, .getNotice)
  | .spindle t v _ => some (.dLink, t, .spindle v)
  | .fetch l t _ => some (l, t, .fetch)
  | .finish l t id g o img _ => some (l, t, .finish id g o img)
  | .attach t p _ => some (.fLink, t, .attach p)
  | .format t a b _ => some (.fLink, t, .format a b)
  | .retire t n _ => some (.fLink, t, .retire n)
  | .frameArrival _ _ | .epochTick _ | .writeTimeout _ _ | .heldTimeoutClose _ _ | .lingerExpiry _ | .warningStart _ _ _
  | .clearingFilter _ _ | .warningClear | .brownOut _ _ | .coldStart _ | .rstnLow _ | .warmStart _ | .retainWake _ _
  | .hibernateWake _ | .refresh | .mapLoss _ | .promotionStart _ | .victimRelease _ | .writebackStart _ | .sweepVisit _
  | .completingJobCompletion _ | .ckptBegin _ | .ckptRecord _ | .ckptRetired _ | .ckptEnd _ | .withdrawal _
  | .waitingRetirementRelease _ _ => none

/-- The checks on a command: the bytes of a frame, the tag and the fields of a request, the handle of a timeout
and the record place of a waiting release. -/
def Instr.WellFormed (i : Instr) : Bool :=
  match i.request with
  | some (_, tag, r) => decide (tag < 16) && r.fits
  | none =>
    match i with
    | .frameArrival _ bytes => frameWhole bytes
    | .writeTimeout h _ | .heldTimeoutClose h _ => decide (h < Config.handles)
    | .waitingRetirementRelease r _ => decide (r < Config.recordPlaces)
    | _ => true

end Sys2Proof
end

