-- ==== Sys2Proof/Decode.lean ====
section
/-! DEFINITION. The commands that words spell. The opcode table gives no row any bits, so no word spells a command;
the byte layouts of the request frames are in Machine/Layout.lean. -/

namespace Sys2Proof

/-- The command that a word spells by the bits of spec/opcode_table.json: none. -/
def decodeTableWord (_nbits _w : Nat) : Option Instr := none

end Sys2Proof
end

