-- ==== Sys2Proof/Machine/State.lean ====
section
/-! DEFINITION. Everything the spec gives the AD370 to hold, as plain data, and the state after power-on reset. -/

namespace Sys2Proof.Machine

/-! ## Reasons a step could stop -/

/-- Faults. No step of the part stops the machine: every failure the spec describes is a reply, a notice, a journal
fault, a map loss or a reset. So there is none, which is safe. -/
inductive Fault where
  deriving DecidableEq, Repr

/-- Refusals. -/
inductive Refusal where
  /-- A command whose meaning is not written; raised by an arm of `exec` alone, and by none at present. Safe: no
  claim about such a command can be proved. -/
  | notModelled (mnemonic : String)
  deriving DecidableEq, Repr

/-! ## Names of modes, states and codes (section 11.6) -/

/-- Service states (R161). -/
inductive Service where
  | waiting
  | recovering
  | blank
  | formatting
  | serving
  deriving DecidableEq, Repr

/-- Spindle states (R136). -/
inductive Spindle where
  | spinning
  | spinningUp
  | stopped
  | parked
  deriving DecidableEq, Repr

/-- Targets of a quiesce (R177). -/
inductive SleepMode where
  | retain
  | hibernate
  deriving DecidableEq, Repr

/-- Power modes (R175). A quiesce holds its target, whether it returns to DOZE (else to RUN), and whether a
checkpoint pass that began after its request has completed (R178). -/
inductive Mode where
  | run
  | doze
  | quiescing (target : SleepMode) (returnDoze passDone : Bool)
  | retain
  | hibernate
  deriving DecidableEq, Repr

/-- Causes of the latest reset (R187). -/
inductive ResetCause where
  | por
  | bor
  | rstn
  | resetRequest
  | hibernateWake
  deriving DecidableEq, Repr

/-- Outcomes of a reply. -/
inductive ReplyCode where
  | ok
  | retry
  | hold
  | range
  | full
  | limit
  | spinNeeded
  | notPermitted
  | notReady
  | unknown
  | tagInUse
  | stale
  deriving DecidableEq, Repr

/-- Reasons of SPIN_NEEDED and details of SPIN_WANTED. -/
inductive SpinReason where
  | noSlots
  | noRecords
  | dirtyHigh
  deriving DecidableEq, Repr

/-- Dispositions of RETIRE (R84). -/
inductive Disposition where
  | retired
  | pending
  | already
  deriving DecidableEq, Repr

/-- Parameters (table of section 10.4). -/
inductive Param where
  | tPromote
  | hysteresis
  | wFlashRead
  | wPlatterRead
  | wWakeRead
  | wWrite
  | epochSeconds
  | streamMin
  | pinPercent
  | writeTimeout
  | dirtyHigh
  | dirtyLow
  | journalLinger
  | warnLevel
  | issueDepthD
  | issueDepthF
  | budgetRate
  | budgetCap
  | reserveSlots
  | noticeMask
  deriving DecidableEq, Repr

/-! ## Placement map -/

/-- States of an extent record (section 1.4). -/
inductive RecState where
  | tracked
  | promoting
  | mirrored
  | dirty
  | writingBack
  deriving DecidableEq, Repr

/-- A live extent record (section 1.2). An absent slot list is the empty one. The retiring and candidate flags are
views of the pending-retirement list and of the candidate list. -/
structure Rec where
  id : Nat
  first : Nat
  len : Nat
  state : RecState
  heat : Nat
  epoch : Nat
  slots : List Nat
  dirty : Mask
  rewrite : Mask
  openWrites : Nat
  attempts : Nat
  pinned : Bool
  absorbOpen : Bool
  wbFailed : Bool
  deriving DecidableEq, Repr

/-- The record table, held in the order of its index (R3), the untracked-touch count (R17) and the sizes set by
FORMAT and by replay (0 while unknown). Two marks are the model's own (log 49): a record has been made in the place at
which the cursor of the sweep (`sweepNew`, R101) or of the checkpoint pass (`passNew`, R154) stands, since the cursor
came there. -/
structure PlacementMap where
  records : List Rec
  untracked : Nat
  slotCount : Nat
  diskGrains : Nat
  sweepNew : Bool
  passNew : Bool
  deriving DecidableEq, Repr

/-! ## Heat unit -/

/-- A filled entry of the stream table (R43). -/
structure StreamEntry where
  next : Nat
  run : Nat
  deriving DecidableEq, Repr

/-- Epoch counter and timer, the filled stream entries, most recent first, and the write budget level. -/
structure HeatUnit where
  epoch : Nat
  timer : Nat
  stream : List StreamEntry
  budget : Nat
  deriving DecidableEq, Repr

/-! ## Write table -/

/-- A record listed by an open write (R62). -/
structure Listing where
  record : Nat
  createdHere : Bool
  deriving DecidableEq, Repr

/-- An open write (section 3.5). `held` marks a timeout that waits for the journal (R67). -/
structure OpenWrite where
  first : Nat
  count : Nat
  opened : Nat
  listings : List Listing
  commitJsn : Nat
  held : Bool
  deriving DecidableEq, Repr

/-- A handle: its generation, and its open write while it is open. -/
structure Handle where
  gen : Nat
  write : Option OpenWrite
  deriving DecidableEq, Repr

/-- The 32 handles and the search point. -/
structure WriteTable where
  handles : List Handle
  search : Nat
  deriving DecidableEq, Repr

/-! ## Slot pool -/

/-- An entry of the quarantine (R81). -/
structure Quarantined where
  slot : Nat
  jsn : Nat
  retire : Bool
  deriving DecidableEq, Repr

/-- Holder of a slot that awaits retirement (section 4.1). -/
inductive Holder where
  | record (id : Nat)
  | job (id : Nat)
  deriving DecidableEq, Repr

/-- An entry of the pending-retirement list. -/
structure PendingSlot where
  slot : Nat
  holder : Holder
  deriving DecidableEq, Repr

/-- The four collections of section 4.1. -/
structure SlotPool where
  free : List Nat
  quarantine : List Quarantined
  retired : List Nat
  pendingRetire : List PendingSlot
  deriving DecidableEq, Repr

/-! ## Migration planner -/

/-- An entry of the candidate list: record, density hint, whether it stands in the pinned part, and its place in the
order of entering its part (R92). -/
structure Candidate where
  record : Nat
  hint : Nat
  pinned : Bool
  arrival : Nat
  deriving DecidableEq, Repr

/-- An entry of the victim list (R96). -/
structure Victim where
  record : Nat
  hint : Nat
  deriving DecidableEq, Repr

/-- The two kinds of start of the planner (R98, R107). -/
inductive Start where
  | promotion
  | writeback
  deriving DecidableEq, Repr

/-- The planner's lists, sweep and arming (chapter 5). -/
structure Planner where
  candidates : List Candidate
  victims : List Victim
  dirtyList : List Nat
  cursor : Option Nat
  rebuild : Option (List Victim)
  tickPending : Bool
  armed : Bool
  deriving DecidableEq, Repr

/-! ## Journal entries, pages and the map journal -/

/-- State of an extent as a journal entry records it (section 11.4). -/
inductive ExtentState where
  | tracked
  | mirrored
  | dirty
  deriving DecidableEq, Repr

/-- Body of EXTENT_SET, ABSORB_OPEN and CKPT_RECORD (R141). -/
structure ExtentBody where
  first : Nat
  len : Nat
  state : ExtentState
  pinned : Bool
  absorbOpen : Bool
  heat : Nat
  epoch : Nat
  dirty : Mask
  slots : List Nat
  deriving DecidableEq, Repr

/-- Journal entries (R141). -/
inductive Entry where
  | extentSet (b : ExtentBody)
  | absorbOpen (b : ExtentBody)
  | absorbCommit (first : Nat)
  | extentDrop (first len : Nat)
  | slotRetire (slot : Nat)
  | ckptBegin (number : Nat)
  | ckptRecord (b : ExtentBody)
  | ckptRetired (slots : List Nat)
  | ckptEnd (number : Nat)
  deriving DecidableEq, Repr

/-- A page image: the header's values and the entries of the payload (R143). The counts and the CRC-32 of the header
are those of its bytes. -/
structure Page where
  psn : Nat
  firstJsn : Nat
  epoch : Nat
  tail : Nat
  slotCount : Nat
  diskGrains : Nat
  entries : List Entry
  deriving DecidableEq, Repr

/-- Order state of a page image the journal holds: its order waits, its order is issued, or it is held without an
order, to join the head or the tail of the page class (R148, R149). -/
inductive ImageState where
  | waiting (order : Nat)
  | issued (order : Nat)
  | held (atHead : Bool)
  deriving DecidableEq, Repr

/-- A page image the journal holds. -/
structure Image where
  page : Page
  state : ImageState
  deriving DecidableEq, Repr

/-- The open page, whose PSN is the journal's head (R143, R144). `finalMade` says that the final image of a full page
exists, `passOnly` that the page holds a pass's entries alone (R145). The linger timer is the time it started. -/
structure OpenPage where
  firstJsn : Nat
  entries : List Entry
  used : Nat
  full : Bool
  finalMade : Bool
  passOnly : Bool
  unemitted : Nat
  linger : Option Nat
  deriving DecidableEq, Repr

/-- Phase of a checkpoint pass: the record id to visit, the last slot recorded by the retired phase, or the JSN of
CKPT_END (R153 to R155). -/
inductive PassPhase where
  | records (cursor : Nat)
  | retired (last : Option Nat)
  | ended (jsn : Nat)
  deriving DecidableEq, Repr

/-- A checkpoint pass in progress. `answers` says that it began after the request of the quiesce (R178). -/
structure Pass where
  number : Nat
  beginPsn : Nat
  phase : PassPhase
  answers : Bool
  deriving DecidableEq, Repr

/-- A run of JSNs reported DONE that the durable JSN has not passed: the first JSN and their number (R150). -/
structure WrittenRun where
  first : Nat
  count : Nat
  deriving DecidableEq, Repr

/-- Failed writes of a PSN since its last DONE (R151). -/
structure PsnAttempts where
  psn : Nat
  count : Nat
  deriving DecidableEq, Repr

/-- The failed page of JOURNAL_FAULT (R152): its PSN, and its first JSN, below which the durable JSN stays; of two failed
pages, the PSN of the later and the JSN of the lower (log 15). -/
structure FailedPage where
  psn : Nat
  first : Nat
  deriving DecidableEq, Repr

/-- The map journal (chapter 7). A pending emission holds its urgency; `fault` is clear outside JOURNAL_FAULT. -/
structure Journal where
  lastJsn : Nat
  durableJsn : Nat
  head : Nat
  tail : Nat
  page : Option OpenPage
  images : List Image
  written : List WrittenRun
  attempts : List PsnAttempts
  fault : Option FailedPage
  pass : Option Pass
  nextCkpt : Nat
  requested : Bool
  pendingEmission : Option Bool
  deriving DecidableEq, Repr

/-! ## Jobs, orders, windows -/

/-- Stages of a job (section 6.1). -/
inductive Stage where
  | one
  | two
  | completing
  deriving DecidableEq, Repr

/-- Kinds of job, with what each holds: the reservation of a PROMOTE, the snapshot of a WRITEBACK. -/
inductive JobKind where
  | promote (reservation : List Nat)
  | writeback (snapshot : Mask)
  deriving DecidableEq, Repr

/-- A job (section 6.1). Its id is the number of its window (R88). -/
structure Job where
  id : Nat
  kind : JobKind
  record : Nat
  first : Nat
  len : Nat
  stage : Stage
  cancel : Bool
  attempts : Nat
  deriving DecidableEq, Repr

/-- Bodies of orders (section 11.2). -/
inductive OrderBody where
  | platterRead (window first count : Nat)
  | platterWrite (window first count : Nat) (mask : Mask)
  | slotWrite (window : Nat) (slots : List Nat)
  | slotRead (window : Nat) (mask : Mask) (slots : List Nat)
  | pageWrite (index : Nat) (page : Page)
  | pageRead (index : Nat)
  deriving DecidableEq, Repr

/-- An order: its id and its body, which gives its kind, link and class. A migration order's job has its id (R119). -/
structure Order where
  id : Nat
  body : OrderBody
  deriving DecidableEq, Repr

/-- A fence on a window (R89). -/
structure WindowFence where
  window : Nat
  link : Link
  order : Nat
  gen : Nat
  deriving DecidableEq, Repr

/-- A fence on a page order id, with the ring page index of its order (R139). -/
structure PageFence where
  order : Nat
  gen : Nat
  index : Nat
  deriving DecidableEq, Repr

/-- The job and order unit (chapter 6). The order table is the union of the queues and the issued sets; `gens` holds
the generations of ids 0 to 31; `completing` is the order in which jobs entered COMPLETING. -/
structure Work where
  jobs : List Job
  completing : List Nat
  dQueue : List Order
  pageQueue : List Order
  migQueue : List Order
  dIssued : List Order
  fIssued : List Order
  gens : List Nat
  windowFences : List WindowFence
  pageFences : List PageFence
  spindle : Spindle
  deriving DecidableEq, Repr

/-! ## Recovery unit -/

/-- Header of a valid page the recovery unit keeps (R165). -/
structure PageHeader where
  psn : Nat
  tail : Nat
  slotCount : Nat
  diskGrains : Nat
  deriving DecidableEq, Repr

/-- The current PAGE_READ: its ring index, its ABORTED outcomes, and whether its order has been made (R164). -/
structure Reading where
  index : Nat
  attempts : Nat
  ordered : Bool
  deriving DecidableEq, Repr

/-- What the hunt reads: index 0, index P - 1, or the middle of its bounds (R165, R166). -/
inductive HuntStage where
  | zero
  | last
  | halving
  deriving DecidableEq, Repr

/-- The hunt (R165, R166). -/
structure Hunt where
  stage : HuntStage
  low : Nat
  high : Nat
  lap : Nat
  fallback : Bool
  candidate : Option PageHeader
  largestEpoch : Nat
  reading : Reading
  deriving DecidableEq, Repr

/-- The replay (R167 to R170): the head candidate, the next PSN, the first JSN expected, the JSN of the last entry
applied, the largest epoch and checkpoint number seen, the tail it began at and the rebuilt retired set. -/
structure Replay where
  candidate : PageHeader
  next : Nat
  expected : Option Nat
  lastJsn : Nat
  largestEpoch : Nat
  largestCkpt : Option Nat
  tail : Nat
  retired : List Nat
  reading : Reading
  deriving DecidableEq, Repr

/-- Phases of the recovery unit. -/
inductive Phase where
  | none
  | hunt (h : Hunt)
  | replay (r : Replay)
  | restate
  | resume
  deriving DecidableEq, Repr

/-- The write of the format page: its failed attempts, and whether its order has been made (R172). -/
structure FormatWrite where
  attempts : Nat
  ordered : Bool
  deriving DecidableEq, Repr

/-- Service state, P (0 while unknown), phase, and the format page's write while FORMATTING. -/
structure Recovery where
  service : Service
  ringPages : Nat
  phase : Phase
  format : Option FormatWrite
  deriving DecidableEq, Repr

/-! ## Supply, resets and the map memory -/

/-- What the map memory controller does with the map memory (R188). -/
inductive MemCondition where
  | refreshed
  | selfRefresh
  | off
  deriving DecidableEq, Repr

/-- RSTn: high, low, or low since a cold start that it made itself in HIBERNATE (R181). -/
inductive Rstn where
  | high
  | low
  | lowAfterCold
  deriving DecidableEq, Repr

/-- The supply and reset unit, with its pins, and the map memory controller (chapter 9). `heldLowest` holds the lowest
VDD reached, in mV, while the part is held in a power-on or brown-out reset (R185). -/
structure Supply where
  mode : Mode
  warning : Bool
  filter : Option Nat
  cause : ResetCause
  brownOuts : Nat
  corrected : Nat
  memory : MemCondition
  refreshTimer : Nat
  pfwnLow : Bool
  vdd : Nat
  rstn : Rstn
  heldLowest : Option Nat
  deriving DecidableEq, Repr

/-! ## Parameters -/

/-- Stored values of the parameters but NOTICE_MASK, which each link port holds (section 10.4). -/
structure Params where
  tPromote : Nat
  hysteresis : Nat
  wFlashRead : Nat
  wPlatterRead : Nat
  wWakeRead : Nat
  wWrite : Nat
  epochSeconds : Nat
  streamMin : Nat
  pinPercent : Nat
  writeTimeout : Nat
  dirtyHigh : Nat
  dirtyLow : Nat
  journalLinger : Nat
  warnLevel : Nat
  issueDepthD : Nat
  issueDepthF : Nat
  budgetRate : Nat
  budgetCap : Nat
  reserveSlots : Nat
  deriving DecidableEq, Repr

/-! ## Link ports, notices and replies -/

/-- A notice with its detail (section 10.3). -/
inductive Notice where
  | linkOverrun (kind : Byte) (tag : Nat)
  | journalFault (psn : Nat)
  | mapLost (left : Service)
  | powerWarnStart (pfwn supply : Bool)
  | powerWarnClear
  | dataAtRisk (first len : Nat)
  | writeOrphan (handle gen first count : Nat)
  | mapTruncated (psn : Nat)
  | recoveryDone (jsn : Nat)
  | spinWanted (reason : SpinReason)
  | ordersReady (count : Nat)
  deriving DecidableEq, Repr

/-- How a request on the accepted-request list stands: not yet taken, or taken with its reply deferred (R193). -/
inductive Standing where
  | accepted
  | syncWaits (target : Nat)
  | powerWaits
  | formatWaits
  deriving DecidableEq, Repr

/-- A request on the accepted-request list. `duplicate` says that its tag was in use as it was accepted (R191). -/
structure Accepted where
  frame : Frame
  duplicate : Bool
  standing : Standing
  deriving DecidableEq, Repr

/-- A link port (chapter 10). The pending notices stand in ascending notice code, which is their priority on every
link (R196). -/
structure Port where
  accepted : List Accepted
  notices : List Notice
  mask : NoticeFlags
  attention : Bool
  deriving DecidableEq, Repr

/-- The three link ports. -/
structure Ports where
  i : Port
  d : Port
  f : Port
  deriving DecidableEq, Repr

/-- A run of a run list (R54). -/
structure Run where
  first : Nat
  count : Nat
  flash : Bool
  spinWait : Bool
  absorbed : Bool
  slots : List Nat
  deriving DecidableEq, Repr

/-- The STATUS snapshot (R201). -/
structure Snapshot where
  service : Service
  mode : Mode
  warning : Bool
  journalFault : Bool
  spindle : Spindle
  tracked : Nat
  promoting : Nat
  mirrored : Nat
  dirty : Nat
  writingBack : Nat
  free : Nat
  quarantined : Nat
  retired : Nat
  dirtyGrains : Nat
  pinnedGrains : Nat
  budget : Nat
  epoch : Nat
  head : Nat
  tail : Nat
  lastJsn : Nat
  durableJsn : Nat
  jobs : Nat
  issuedD : Nat
  issuedF : Nat
  openWrites : Nat
  untracked : Nat
  corrected : Nat
  cause : ResetCause
  brownOuts : Nat
  slotCount : Nat
  diskGrains : Nat
  ringPages : Nat
  deriving DecidableEq, Repr

/-- Bodies of replies (section 11.1). -/
inductive ReplyBody where
  | empty
  | runs (runs : List Run)
  | opened (handle gen : Nat) (runs : List Run)
  | jsn (jsn : Nat)
  | mode (mode : Mode)
  | retired (disposition : Disposition) (jsn : Nat)
  | value (value : Nat)
  | sizes (slotCount diskGrains : Nat)
  | order (id gen : Nat) (body : OrderBody)
  | notice (notice : Option Notice) (stillPending : NoticeFlags)
  | snapshot (snapshot : Snapshot)
  | reason (reason : SpinReason)
  deriving DecidableEq, Repr

/-- A reply frame: the link it leaves on, the tag and kind code of its request, the outcome and the body (R190). -/
structure Reply where
  link : Link
  tag : Nat
  kind : Byte
  outcome : ReplyCode
  body : ReplyBody
  deriving DecidableEq, Repr

/-! ## State -/

/-- The AD370. `pending` is the queue of commands that wait, first in, first out; `sent` the replies sent so far,
oldest first; `now` the 1 ms time base. `owed` is the model's note for R110: the start that held beside another when
that one was taken with two or more windows FREE, while its conditions go on holding (log 58). -/
structure State where
  pending : List Instr
  sent : List Reply
  now : Nat
  ports : Ports
  params : Params
  map : PlacementMap
  heat : HeatUnit
  writes : WriteTable
  pool : SlotPool
  plan : Planner
  owed : Option Start
  work : Work
  jrn : Journal
  recovery : Recovery
  supply : Supply
  deriving DecidableEq, Repr

/-! ## Updates: one for each block -/

def State.setPending (s : State) (x : List Instr) : State := { s with pending := x }
def State.setSent (s : State) (x : List Reply) : State := { s with sent := x }
def State.setNow (s : State) (x : Nat) : State := { s with now := x }
def State.setPorts (s : State) (x : Ports) : State := { s with ports := x }
def State.setParams (s : State) (x : Params) : State := { s with params := x }
def State.setMap (s : State) (x : PlacementMap) : State := { s with map := x }
def State.setHeat (s : State) (x : HeatUnit) : State := { s with heat := x }
def State.setWrites (s : State) (x : WriteTable) : State := { s with writes := x }
def State.setPool (s : State) (x : SlotPool) : State := { s with pool := x }
def State.setPlan (s : State) (x : Planner) : State := { s with plan := x }
def State.setOwed (s : State) (x : Option Start) : State := { s with owed := x }
def State.setWork (s : State) (x : Work) : State := { s with work := x }
def State.setJrn (s : State) (x : Journal) : State := { s with jrn := x }
def State.setRecovery (s : State) (x : Recovery) : State := { s with recovery := x }
def State.setSupply (s : State) (x : Supply) : State := { s with supply := x }

/-! ## The state after reset -/

/-- A link port after a cold start (table at the head of chapter 10). -/
def Port.reset : Port := { accepted := [], notices := [], mask := 0, attention := false }

/-- The three ports after a cold start. -/
def Ports.reset : Ports := { i := Port.reset, d := Port.reset, f := Port.reset }

/-- Every parameter at its default (R200). -/
def Params.default : Params where
  tPromote := 512
  hysteresis := 64
  wFlashRead := 8
  wPlatterRead := 24
  wWakeRead := 96
  wWrite := 4
  epochSeconds := 30
  streamMin := 256
  pinPercent := 25
  writeTimeout := 10000
  dirtyHigh := 60
  dirtyLow := 20
  journalLinger := 100
  warnLevel := 1
  issueDepthD := 2
  issueDepthF := 2
  budgetRate := 1024
  budgetCap := 16384
  reserveSlots := 4096

/-- An empty record table (R29), sizes unknown. -/
def PlacementMap.reset : PlacementMap :=
  { records := [], untracked := 0, slotCount := 0, diskGrains := 0, sweepNew := false, passNew := false }

/-- The heat unit after a cold start (table at the head of chapter 2). -/
def HeatUnit.reset : HeatUnit := { epoch := 0, timer := 0, stream := [], budget := 16384 }

/-- Every handle free with generation 0 and the search point at 31 (R77). -/
def WriteTable.reset : WriteTable :=
  { handles := List.replicate Config.handles { gen := 0, write := none }, search := 31 }

/-- The four collections empty (R90). -/
def SlotPool.reset : SlotPool := { free := [], quarantine := [], retired := [], pendingRetire := [] }

/-- The planner after a cold start (R113). -/
def Planner.reset : Planner where
  candidates := []
  victims := []
  dirtyList := []
  cursor := none
  rebuild := none
  tickPending := false
  armed := true

/-- The job and order unit after a cold start (R138). -/
def Work.reset : Work where
  jobs := []
  completing := []
  dQueue := []
  pageQueue := []
  migQueue := []
  dIssued := []
  fIssued := []
  gens := List.replicate 32 0
  windowFences := []
  pageFences := []
  spindle := .stopped

/-- The journal after a cold start (R158). -/
def Journal.reset : Journal where
  lastJsn := 0
  durableJsn := 0
  head := 0
  tail := 0
  page := none
  images := []
  written := []
  attempts := []
  fault := none
  pass := none
  nextCkpt := 0
  requested := false
  pendingEmission := none

/-- The recovery unit after a cold start: WAITING, P unknown (R161). -/
def Recovery.reset : Recovery := { service := .waiting, ringPages := 0, phase := .none, format := none }

/-- The supply and reset unit after a power-on reset (table at the head of chapter 9). The levels of the pins are
DESIGN CHOICE (log 6): PFWn and RSTn high, VDD at its nominal 5.0 V, the map memory refreshed. -/
def Supply.reset : Supply where
  mode := .run
  warning := true
  filter := none
  cause := .por
  brownOuts := 0
  corrected := 0
  memory := .refreshed
  refreshTimer := 0
  pfwnLow := false
  vdd := 5000
  rstn := .high
  heldLowest := none

/-- The AD370 right after a power-on reset, with no command waiting. -/
def State.reset : State where
  pending := []
  sent := []
  now := 0
  ports := Ports.reset
  params := Params.default
  map := PlacementMap.reset
  heat := HeatUnit.reset
  writes := WriteTable.reset
  pool := SlotPool.reset
  plan := Planner.reset
  owed := none
  work := Work.reset
  jrn := Journal.reset
  recovery := Recovery.reset
  supply := Supply.reset

end Sys2Proof.Machine
end

