-- ==== Sys2Proof/Machine/Layout.lean ====
section
/-! DEFINITION. The byte layouts of chapter 11: request frames, replies, orders, journal pages and entries, notice
details and the STATUS snapshot. Every field is little-endian (R202). -/

namespace Sys2Proof.Machine

/-! ## Little-endian fields -/

/-- The low `w` bytes of a number, least significant first. -/
def leBytes : Nat → Nat → List Byte
  | 0, _ => []
  | w + 1, n => BitVec.ofNat 8 n :: leBytes w (n / 256)

/-- The number that bytes spell, least significant first. -/
def leNat : List Byte → Nat
  | [] => 0
  | b :: bs => b.toNat + 256 * leNat bs

/-- The field of `w` bytes at offset `off`. -/
def fieldAt (off w : Nat) (bs : List Byte) : Nat := leNat ((bs.drop off).take w)

/-- The numbers of `w` bytes each that stand one after another, `k` of them. -/
def fieldsOf (w : Nat) : Nat → List Byte → List Nat
  | 0, _ => []
  | k + 1, bs => leNat (bs.take w) :: fieldsOf w k (bs.drop w)

/-- The value that a field of `w` bytes carries for a number (log 36). -/
def carriedIn (w n : Nat) : Nat := n % 256 ^ w

/-- The page image that the body of a FINISH carries: with no byte behind its three fields it carries none (log 36). -/
def carriedImage : Option (List Byte) → Option (List Byte)
  | some (b :: bs) => some (b :: bs)
  | some [] | none => none

/-! ## Codes (section 11.6) -/

def ReplyCode.code : ReplyCode → Nat
  | .ok => 0
  | .retry => 1
  | .hold => 2
  | .range => 3
  | .full => 4
  | .limit => 5
  | .spinNeeded => 6
  | .notPermitted => 7
  | .notReady => 8
  | .unknown => 9
  | .tagInUse => 10
  | .stale => 11

def SpinReason.code : SpinReason → Nat
  | .noSlots => 1
  | .noRecords => 2
  | .dirtyHigh => 3

def Disposition.code : Disposition → Nat
  | .retired => 0
  | .pending => 1
  | .already => 2

def SleepMode.code : SleepMode → Nat
  | .retain => 3
  | .hibernate => 4

def Mode.code : Mode → Nat
  | .run => 0
  | .doze => 1
  | .quiescing _ _ _ => 2
  | .retain => 3
  | .hibernate => 4

/-- The quiesce target of the STATUS snapshot: 0 when none (section 11.5). -/
def Mode.targetCode : Mode → Nat
  | .quiescing t _ _ => t.code
  | .run | .doze | .retain | .hibernate => 0

def Spindle.code : Spindle → Nat
  | .spinning => 0
  | .spinningUp => 1
  | .stopped => 2
  | .parked => 3

/-- The spindle state a code names; a code above 3 is not defined (R136, R202). -/
def Spindle.ofCode : Nat → Option Spindle
  | 0 => some .spinning
  | 1 => some .spinningUp
  | 2 => some .stopped
  | 3 => some .parked
  | _ => none

def Service.code : Service → Nat
  | .waiting => 0
  | .recovering => 1
  | .blank => 2
  | .formatting => 3
  | .serving => 4

def ResetCause.code : ResetCause → Nat
  | .por => 0
  | .bor => 1
  | .rstn => 2
  | .resetRequest => 3
  | .hibernateWake => 4

/-- The parameter a code names; any other code is UNKNOWN (R199). -/
def Param.ofCode : Nat → Option Param
  | 1 => some .tPromote
  | 2 => some .hysteresis
  | 3 => some .wFlashRead
  | 4 => some .wPlatterRead
  | 5 => some .wWakeRead
  | 6 => some .wWrite
  | 7 => some .epochSeconds
  | 8 => some .streamMin
  | 9 => some .pinPercent
  | 10 => some .writeTimeout
  | 11 => some .dirtyHigh
  | 12 => some .dirtyLow
  | 13 => some .journalLinger
  | 14 => some .warnLevel
  | 15 => some .issueDepthD
  | 16 => some .issueDepthF
  | 17 => some .budgetRate
  | 18 => some .budgetCap
  | 19 => some .reserveSlots
  | 20 => some .noticeMask
  | _ => none

/-- The notice code, which is also its priority on every link that carries it (R196). -/
def Notice.code : Notice → Nat
  | .linkOverrun _ _ => 1
  | .journalFault _ => 2
  | .mapLost _ => 3
  | .powerWarnStart _ _ | .powerWarnClear => 4
  | .dataAtRisk _ _ => 5
  | .writeOrphan _ _ _ _ => 6
  | .mapTruncated _ => 7
  | .recoveryDone _ => 8
  | .spinWanted _ => 9
  | .ordersReady _ => 10

/-! ## Request frames (section 11.1) -/

/-- The links that take a request kind (section 10.1); none for a code missing from the table of section 11.1. -/
def kindLinks (kind : Nat) : List Link :=
  if 0x01 ≤ kind ∧ kind ≤ 0x09 then [.iLink]
  else if kind = 0x10 then [.dLink]
  else if kind = 0x11 ∨ kind = 0x12 then [.dLink, .fLink]
  else if 0x20 ≤ kind ∧ kind ≤ 0x22 then [.fLink]
  else if 0x30 ≤ kind ∧ kind ≤ 0x33 then [.iLink, .dLink, .fLink]
  else []

/-- Kind code of a request. -/
def requestKind : Request → Nat
  | .locate _ _ => 0x01
  | .writeOpen _ _ => 0x02
  | .writeClose _ _ _ => 0x03
  | .discard _ _ => 0x04
  | .pin _ _ => 0x05
  | .unpin _ _ => 0x06
  | .sync => 0x07
  | .power _ => 0x08
  | .reset => 0x09
  | .spindle _ => 0x10
  | .fetch => 0x11
  | .finish _ _ _ _ => 0x12
  | .attach _ => 0x20
  | .format _ _ => 0x21
  | .retire _ => 0x22
  | .setParam _ _ => 0x30
  | .getParam _ => 0x31
  | .status => 0x32
  | .getNotice => 0x33

/-- Body of a request. A field wider than its bytes keeps its low bits, as a link carries no more. -/
def requestBody : Request → List Byte
  | .locate g n | .writeOpen g n | .discard g n | .pin g n | .unpin g n => leBytes 4 g ++ leBytes 1 n
  | .writeClose h g o => leBytes 1 h ++ leBytes 1 g ++ leBytes 1 o
  | .sync | .reset | .fetch | .status | .getNotice => []
  | .power m => leBytes 1 m
  | .spindle v => leBytes 1 v
  | .finish id g o none => leBytes 1 id ++ leBytes 1 g ++ leBytes 1 o
  | .finish id g o (some img) => leBytes 1 id ++ leBytes 1 g ++ leBytes 1 o ++ img
  | .attach p => leBytes 4 p
  | .format a b => leBytes 4 a ++ leBytes 4 b
  | .retire n => leBytes 4 n
  | .setParam p v => leBytes 1 p ++ leBytes 4 v
  | .getParam p => leBytes 1 p

/-- The frame that carries a request under a tag. -/
def requestFrame (r : Request) (tag : Nat) : Frame :=
  { kind := BitVec.ofNat 8 (requestKind r), tag := BitVec.ofNat 8 (tag % 16), body := requestBody r }

/-- A request frame on the wire: header, then body. -/
def Frame.bytes (f : Frame) : List Byte := [f.kind, f.tag] ++ leBytes 2 f.body.length ++ f.body

/-- The frame that bytes on a link spell: kind code at offset 0, tag byte at 1, body length in 2 bytes at 2, and a body
of just that length; `none` for any other bytes (log 36). -/
def Frame.read : List Byte → Option Frame
  | kind :: tag :: low :: high :: body =>
    if body.length = leNat [low, high] then some { kind := kind, tag := tag, body := body } else none
  | _ => none

/-- The request that a kind code and a body spell: `none` when the code is in no table or the body length is not one
its kind requires (R192, checks 2 and 4). -/
def readRequest (kind : Nat) (b : List Byte) : Option Request :=
  let n := b.length
  match kind with
  | 0x01 => if n = 5 then some (.locate (fieldAt 0 4 b) (fieldAt 4 1 b)) else none
  | 0x02 => if n = 5 then some (.writeOpen (fieldAt 0 4 b) (fieldAt 4 1 b)) else none
  | 0x03 => if n = 3 then some (.writeClose (fieldAt 0 1 b) (fieldAt 1 1 b) (fieldAt 2 1 b)) else none
  | 0x04 => if n = 5 then some (.discard (fieldAt 0 4 b) (fieldAt 4 1 b)) else none
  | 0x05 => if n = 5 then some (.pin (fieldAt 0 4 b) (fieldAt 4 1 b)) else none
  | 0x06 => if n = 5 then some (.unpin (fieldAt 0 4 b) (fieldAt 4 1 b)) else none
  | 0x07 => if n = 0 then some .sync else none
  | 0x08 => if n = 1 then some (.power (fieldAt 0 1 b)) else none
  | 0x09 => if n = 0 then some .reset else none
  | 0x10 => if n = 1 then some (.spindle (fieldAt 0 1 b)) else none
  | 0x11 => if n = 0 then some .fetch else none
  | 0x12 =>
    if n = 3 then some (.finish (fieldAt 0 1 b) (fieldAt 1 1 b) (fieldAt 2 1 b) none)
    else if n = 4099 then some (.finish (fieldAt 0 1 b) (fieldAt 1 1 b) (fieldAt 2 1 b) (some (b.drop 3)))
    else none
  | 0x20 => if n = 4 then some (.attach (fieldAt 0 4 b)) else none
  | 0x21 => if n = 8 then some (.format (fieldAt 0 4 b) (fieldAt 4 4 b)) else none
  | 0x22 => if n = 4 then some (.retire (fieldAt 0 4 b)) else none
  | 0x30 => if n = 5 then some (.setParam (fieldAt 0 1 b) (fieldAt 1 4 b)) else none
  | 0x31 => if n = 1 then some (.getParam (fieldAt 0 1 b)) else none
  | 0x32 => if n = 0 then some .status else none
  | 0x33 => if n = 0 then some .getNotice else none
  | _ => none

/-- The tag of a frame: the low four bits of its tag byte (R202). -/
def frameTag (f : Frame) : Nat := f.tag.toNat % 16

/-- The request a frame spells. -/
def frameRequest (f : Frame) : Option Request := readRequest f.kind.toNat f.body

/-! ## Journal entries (section 11.4) -/

def ExtentState.code : ExtentState → Nat
  | .tracked => 0
  | .mirrored => 2
  | .dirty => 3

/-- The state a state byte holds; a page with any other is invalid (R202). -/
def ExtentState.ofCode : Nat → Option ExtentState
  | 0 => some .tracked
  | 2 => some .mirrored
  | 3 => some .dirty
  | _ => none

/-- Body of EXTENT_SET, ABSORB_OPEN and CKPT_RECORD. Bits 2 to 7 of the flags byte are written as zero (DESIGN CHOICE,
log 67). -/
def ExtentBody.bytes (b : ExtentBody) : List Byte :=
  leBytes 4 b.first ++ leBytes 1 b.len ++ leBytes 1 b.state.code ++
    leBytes 1 ((if b.pinned then 1 else 0) + (if b.absorbOpen then 2 else 0)) ++
    leBytes 2 b.heat ++ leBytes 4 b.epoch ++ leBytes 8 b.dirty.toNat ++
    (match b.state with
     | .tracked => []
     | .mirrored | .dirty => b.slots.flatMap (leBytes 3))

/-- Bytes of an extent entry, head included (R141). -/
def ExtentBody.size (b : ExtentBody) : Nat :=
  match b.state with
  | .tracked => 23
  | .mirrored | .dirty => 23 + 3 * b.slots.length

/-- Bytes of an entry, head included (R141). -/
def Entry.size : Entry → Nat
  | .extentSet b | .absorbOpen b | .ckptRecord b => b.size
  | .absorbCommit _ => 6
  | .extentDrop _ _ => 7
  | .slotRetire _ => 6
  | .ckptBegin _ => 6
  | .ckptRetired ss => 3 + 3 * ss.length
  | .ckptEnd _ => 6

def Entry.code : Entry → Nat
  | .extentSet _ => 0x01
  | .absorbOpen _ => 0x02
  | .absorbCommit _ => 0x03
  | .extentDrop _ _ => 0x04
  | .slotRetire _ => 0x05
  | .ckptBegin _ => 0x06
  | .ckptRecord _ => 0x07
  | .ckptRetired _ => 0x08
  | .ckptEnd _ => 0x09

/-- Body of an entry, after its 2-byte head. -/
def Entry.body : Entry → List Byte
  | .extentSet b | .absorbOpen b | .ckptRecord b => b.bytes
  | .absorbCommit g => leBytes 4 g
  | .extentDrop g n => leBytes 4 g ++ leBytes 1 n
  | .slotRetire n => leBytes 4 n
  | .ckptBegin n => leBytes 4 n
  | .ckptRetired ss => leBytes 1 ss.length ++ ss.flatMap (leBytes 3)
  | .ckptEnd n => leBytes 4 n

/-- An entry: kind, length, body. -/
def Entry.bytes (e : Entry) : List Byte := leBytes 1 e.code ++ leBytes 1 e.size ++ e.body

/-- The extent body that the bytes after an entry's head spell, when the entry fits its kind (R202). Bits 2
to 7 of the flags byte are ignored (DESIGN CHOICE, log 67). -/
def ExtentBody.read (b : List Byte) : Option ExtentBody :=
  match ExtentState.ofCode (fieldAt 5 1 b) with
  | none => none
  | some st =>
    let len := fieldAt 4 1 b
    let slotCount := match st with
      | .tracked => 0
      | .mirrored | .dirty => len
    if b.length = 21 + 3 * slotCount then
      some
        { first := fieldAt 0 4 b
          len := len
          state := st
          pinned := fieldAt 6 1 b % 2 = 1
          absorbOpen := fieldAt 6 1 b / 2 % 2 = 1
          heat := fieldAt 7 2 b
          epoch := fieldAt 9 4 b
          dirty := BitVec.ofNat 64 (fieldAt 13 8 b)
          slots := fieldsOf 3 slotCount (b.drop 21) }
    else none

/-- The entry that a kind code and the bytes after its head spell: `none` when the kind is not known or the length
does not fit the kind (R164, R202). -/
def Entry.read (code : Nat) (b : List Byte) : Option Entry :=
  match code with
  | 0x01 => (ExtentBody.read b).map .extentSet
  | 0x02 => (ExtentBody.read b).map .absorbOpen
  | 0x03 => if b.length = 4 then some (.absorbCommit (leNat b)) else none
  | 0x04 => if b.length = 5 then some (.extentDrop (fieldAt 0 4 b) (fieldAt 4 1 b)) else none
  | 0x05 => if b.length = 4 then some (.slotRetire (leNat b)) else none
  | 0x06 => if b.length = 4 then some (.ckptBegin (leNat b)) else none
  | 0x07 => (ExtentBody.read b).map .ckptRecord
  | 0x08 =>
    let k := fieldAt 0 1 b
    if 1 ≤ k ∧ k ≤ 64 ∧ b.length = 1 + 3 * k then some (.ckptRetired (fieldsOf 3 k (b.drop 1))) else none
  | 0x09 => if b.length = 4 then some (.ckptEnd (leNat b)) else none
  | _ => none

/-- The entries that fill a payload exactly, read from its start; `fuel` bounds their number. -/
def readEntries : Nat → List Byte → Option (List Entry)
  | _, [] => some []
  | 0, _ :: _ => none
  | fuel + 1, kind :: rest =>
    match rest with
    | [] => none
    | lenByte :: more =>
      let len := lenByte.toNat
      if len < 2 ∨ more.length < len - 2 then none
      else
        match Entry.read kind.toNat (more.take (len - 2)), readEntries fuel (more.drop (len - 2)) with
        | some e, some es => some (e :: es)
        | _, _ => none

/-! ## Journal pages (section 11.3) -/

/-- One bit of the CRC-32, least significant bit first (R202). -/
def crcBit (c : BitVec 32) : BitVec 32 :=
  if c.getLsbD 0 then (c >>> 1) ^^^ 0xEDB88320#32 else c >>> 1

/-- One byte of the CRC-32. -/
def crcByte (c : BitVec 32) (b : Byte) : BitVec 32 :=
  crcBit (crcBit (crcBit (crcBit (crcBit (crcBit (crcBit (crcBit (c ^^^ b.setWidth 32))))))))

/-- The CRC-32 of R202: polynomial 0x04C11DB7 bit-reflected, register from 0xFFFFFFFF, result complemented. -/
def crc32 (bs : List Byte) : BitVec 32 := ~~~(bs.foldl crcByte 0xFFFFFFFF#32)

/-- Payload bytes of a page's entries. -/
def Page.entryBytes (p : Page) : List Byte := p.entries.flatMap Entry.bytes

/-- The 28 header bytes before the CRC-32. -/
def Page.header (p : Page) : List Byte :=
  leBytes 4 p.psn ++ leBytes 4 p.firstJsn ++ leBytes 2 p.entries.length ++ leBytes 2 p.entryBytes.length ++
    leBytes 4 p.epoch ++ leBytes 4 p.tail ++ leBytes 4 p.slotCount ++ leBytes 4 p.diskGrains

/-- The payload: the entries, then zero bytes to the end of the page (R202). -/
def Page.payload (p : Page) : List Byte :=
  p.entryBytes ++ List.replicate (Config.payloadBytes - p.entryBytes.length) 0

/-- The 4,096 bytes of a page image. -/
def Page.bytes (p : Page) : List Byte :=
  p.header ++ leBytes 4 (crc32 (p.header ++ p.payload)).toNat ++ p.payload

/-- The page that 4,096 bytes spell, when the conditions of R164 on its bytes hold: the CRC-32, the payload byte
count, the entries and their number. -/
def Page.read (bs : List Byte) : Option Page :=
  let used := fieldAt 10 2 bs
  if bs.length = 4096 ∧ fieldAt 28 4 bs = (crc32 (bs.take 28 ++ bs.drop 32)).toNat ∧ used ≤ Config.payloadBytes then
    match readEntries used ((bs.drop 32).take used) with
    | none => none
    | some es =>
      if es.length = fieldAt 8 2 bs then
        some
          { psn := fieldAt 0 4 bs
            firstJsn := fieldAt 4 4 bs
            epoch := fieldAt 12 4 bs
            tail := fieldAt 16 4 bs
            slotCount := fieldAt 20 4 bs
            diskGrains := fieldAt 24 4 bs
            entries := es }
      else none
  else none

/-- The ranges of SLOT_COUNT and DISK_GRAINS (section 6.1 of the overview). -/
def sizesInRange (slotCount diskGrains : Nat) : Bool :=
  decide (1024 ≤ slotCount) && decide (slotCount ≤ 1048576) && decide (65536 ≤ diskGrains) &&
    decide (diskGrains ≤ 268435456)

/-- The page a PAGE_READ of a ring index brings, when it is valid in a ring of `ringPages` pages (R164). -/
def validPage (ringPages index : Nat) (image : List Byte) : Option Page :=
  match Page.read image with
  | none => none
  | some p => if p.psn % ringPages = index ∧ sizesInRange p.slotCount p.diskGrains then some p else none

/-! ## Orders, runs, notices, STATUS and replies -/

/-- Kind code of an order (section 11.2). -/
def OrderBody.code : OrderBody → Nat
  | .platterRead _ _ _ => 0x01
  | .platterWrite _ _ _ _ => 0x02
  | .slotWrite _ _ => 0x03
  | .slotRead _ _ _ => 0x04
  | .pageWrite _ _ => 0x05
  | .pageRead _ => 0x06

/-- Body of an order (section 11.2). -/
def OrderBody.bytes : OrderBody → List Byte
  | .platterRead w g n => leBytes 1 w ++ leBytes 4 g ++ leBytes 1 n
  | .platterWrite w g n m => leBytes 1 w ++ leBytes 4 g ++ leBytes 1 n ++ leBytes 8 m.toNat
  | .slotWrite w ss => leBytes 1 w ++ leBytes 1 ss.length ++ ss.flatMap (leBytes 3)
  | .slotRead w m ss => leBytes 1 w ++ leBytes 1 ss.length ++ leBytes 8 m.toNat ++ ss.flatMap (leBytes 3)
  | .pageWrite i p => leBytes 2 i ++ p.bytes
  | .pageRead i => leBytes 2 i

/-- A run, followed by its slots when it is a FLASH run; flag bits 3 to 7 are zero (R202). -/
def Run.bytes (r : Run) : List Byte :=
  leBytes 4 r.first ++ leBytes 1 r.count ++
    leBytes 1 ((if r.flash then 1 else 0) + (if r.spinWait then 2 else 0) + (if r.absorbed then 4 else 0)) ++
    (if r.flash then r.slots.flatMap (leBytes 3) else [])

/-- A run list: the run count, then the runs. -/
def runBytes (rs : List Run) : List Byte := leBytes 1 rs.length ++ rs.flatMap Run.bytes

/-- The bytes of a notice's detail that are not left zero (section 11.6; log 32 for CLEAR). -/
def Notice.detail : Notice → List Byte
  | .linkOverrun k t => [k] ++ leBytes 1 t
  | .journalFault p => leBytes 4 p
  | .mapLost s => leBytes 1 s.code
  | .powerWarnStart p v => leBytes 1 0 ++ leBytes 1 ((if p then 1 else 0) + (if v then 2 else 0))
  | .powerWarnClear => leBytes 1 1
  | .dataAtRisk g n => leBytes 4 g ++ leBytes 1 n
  | .writeOrphan h g f n => leBytes 1 h ++ leBytes 1 g ++ leBytes 4 f ++ leBytes 1 n
  | .mapTruncated p => leBytes 4 p
  | .recoveryDone j => leBytes 4 j
  | .spinWanted r => leBytes 1 r.code
  | .ordersReady n => leBytes 1 n

/-- The 8 bytes of a notice's detail, unused ones zero (R202). -/
def Notice.detailBytes (n : Notice) : List Byte := n.detail ++ List.replicate (8 - n.detail.length) 0

/-- The STATUS snapshot (section 11.5). -/
def Snapshot.bytes (x : Snapshot) : List Byte :=
  leBytes 1 x.service.code ++ leBytes 1 x.mode.code ++ leBytes 1 x.mode.targetCode ++
    leBytes 1 ((if x.warning then 1 else 0) + (if x.journalFault then 2 else 0)) ++ leBytes 1 x.spindle.code ++
    leBytes 2 x.tracked ++ leBytes 2 x.promoting ++ leBytes 2 x.mirrored ++ leBytes 2 x.dirty ++
    leBytes 2 x.writingBack ++
    leBytes 4 x.free ++ leBytes 4 x.quarantined ++ leBytes 4 x.retired ++
    leBytes 4 x.dirtyGrains ++ leBytes 4 x.pinnedGrains ++ leBytes 4 x.budget ++ leBytes 4 x.epoch ++
    leBytes 4 x.head ++ leBytes 4 x.tail ++ leBytes 4 x.lastJsn ++ leBytes 4 x.durableJsn ++
    leBytes 1 x.jobs ++ leBytes 1 x.issuedD ++ leBytes 1 x.issuedF ++ leBytes 1 x.openWrites ++
    leBytes 4 x.untracked ++ leBytes 2 x.corrected ++ leBytes 1 x.cause.code ++ leBytes 1 x.brownOuts ++
    leBytes 4 x.slotCount ++ leBytes 4 x.diskGrains ++ leBytes 4 x.ringPages

/-- Body of a reply (section 11.1). -/
def ReplyBody.bytes : ReplyBody → List Byte
  | .empty => []
  | .runs rs => runBytes rs
  | .opened h g rs => leBytes 1 h ++ leBytes 1 g ++ runBytes rs
  | .jsn j => leBytes 4 j
  | .mode m => leBytes 1 m.code
  | .retired d j => leBytes 1 d.code ++ leBytes 4 j
  | .value v => leBytes 4 v
  | .sizes a b => leBytes 4 a ++ leBytes 4 b
  | .order id g b => leBytes 1 id ++ leBytes 1 g ++ leBytes 1 b.code ++ b.bytes
  | .notice none still => leBytes 1 0 ++ List.replicate 8 0 ++ leBytes 2 still.toNat
  | .notice (some n) still => leBytes 1 n.code ++ n.detailBytes ++ leBytes 2 still.toNat
  | .snapshot x => x.bytes
  | .reason r => leBytes 1 r.code

/-- A reply frame on the wire: header, then body. -/
def Reply.bytes (r : Reply) : List Byte :=
  [r.kind] ++ leBytes 1 r.tag ++ leBytes 1 r.outcome.code ++ leBytes 2 r.body.bytes.length ++ r.body.bytes

end Sys2Proof.Machine
end

