-- ==== Sys2Proof/Machine/Ops.lean ====
section
/-! DEFINITION. Shared operations: JSN arithmetic, ports and notices, replies, lookups and changes of the record
table, grain masks, and the views of State that the spec names (counts, marks, windows, flags). -/

namespace Sys2Proof.Machine

/-! ## JSN arithmetic (R142) -/

/-- The JSN after a JSN: after 4,294,967,295 the count goes on at 1. -/
def jsnNext (j : Nat) : Nat := if j = Config.top32 then 1 else j + 1

/-- The JSN `n` steps after a JSN. JSN 0 stands before JSN 1. -/
def jsnAdd (j n : Nat) : Nat :=
  if n = 0 then j
  else if j = 0 then (n - 1) % Config.top32 + 1
  else (j - 1 + n) % Config.top32 + 1

/-- Steps from one JSN to another; JSN 0 is reached from itself alone (log 33). -/
def jsnSteps (a b : Nat) : Nat :=
  if a = b then 0
  else if b = 0 then Config.top32
  else if a = 0 then b
  else (b + Config.top32 - a) % Config.top32

/-- `a` stands at or below `b`: `b` is reached from `a` by at most 2,147,483,647 steps. -/
def jsnLe (a b : Nat) : Bool := decide (jsnSteps a b ≤ 2147483647)

/-! ## Lists in ascending order -/

/-- Put a number in its place in an ascending list without duplicates. -/
def insertSorted (x : Nat) : List Nat → List Nat
  | [] => [x]
  | y :: ys => if x < y then x :: y :: ys else if x = y then y :: ys else y :: insertSorted x ys

/-- The numbers of a list in ascending order, without duplicates. -/
def sortNats (xs : List Nat) : List Nat := xs.foldl (fun acc x => insertSorted x acc) []

/-! ## Link ports and notices (R195, R196) -/

/-- The port of a link. -/
def Ports.get (p : Ports) : Link → Port
  | .iLink => p.i
  | .dLink => p.d
  | .fLink => p.f

/-- The ports with one link's port replaced. -/
def Ports.put (p : Ports) (l : Link) (x : Port) : Ports :=
  match l with
  | .iLink => { p with i := x }
  | .dLink => { p with d := x }
  | .fLink => { p with f := x }

def State.port (s : State) (l : Link) : Port := s.ports.get l

def State.setPort (s : State) (l : Link) (x : Port) : State := s.setPorts (s.ports.put l x)

/-- The kinds a link carries, as flags (table of section 10.3). -/
def carried : Link → NoticeFlags
  | .iLink => 0x01FE#16
  | .dLink => 0x061A#16
  | .fLink => 0x041E#16

/-- The notice of a kind that is not masked. -/
def Port.unmasked (p : Port) (n : Notice) : Bool := !p.mask.getLsbD n.code

/-- The attention line judged: asserted while at least one pending notice is unmasked (R196). -/
def Port.judged (p : Port) : Port := { p with attention := p.notices.any p.unmasked }

/-- The kinds pending, as flags. -/
def Port.pendingFlags (p : Port) : NoticeFlags :=
  p.notices.foldl (fun acc n => acc ||| (1#16 <<< n.code)) 0#16

/-- A notice becomes pending, in place of one of its kind that is pending already (R195). -/
def insertNotice (n : Notice) : List Notice → List Notice
  | [] => [n]
  | m :: ms =>
    if n.code < m.code then n :: m :: ms
    else if n.code = m.code then n :: ms
    else m :: insertNotice n ms

/-- The line is judged at once, but keeps its level while RSTn is low, and stays released while the part is held in
reset (R196). -/
def State.judgePort (s : State) (l : Link) : State :=
  if s.supply.rstn = .high && s.supply.heldLowest.isNone then s.setPort l (s.port l).judged else s

/-- Raise a notice on a link. -/
def State.raise (s : State) (l : Link) (n : Notice) : State :=
  (s.setPort l { s.port l with notices := insertNotice n (s.port l).notices }).judgePort l

/-- Raise a notice on the three links. -/
def State.raiseAll (s : State) (n : Notice) : State :=
  ((s.raise .iLink n).raise .dLink n).raise .fLink n

/-- Judge the three lines. -/
def State.judgePorts (s : State) : State := ((s.judgePort .iLink).judgePort .dLink).judgePort .fLink

/-- ORDERS_READY leaves the D-link and F-link sets (R198). -/
def State.clearOrdersReady (s : State) : State :=
  let drop := fun (p : Port) => { p with notices := p.notices.filter (fun n => n.code ≠ 10) }
  (s.setPort .dLink (drop (s.port .dLink))).setPort .fLink (drop (s.port .fLink))

/-! ## Replies (R190, R193) -/

/-- The reply to a request on a link's list. -/
def Accepted.reply (a : Accepted) (l : Link) (c : ReplyCode) (b : ReplyBody) : Reply :=
  { link := l, tag := frameTag a.frame, kind := a.frame.kind, outcome := c, body := b }

/-- A reply leaves. -/
def State.send (s : State) (r : Reply) : State := s.setSent (s.sent ++ [r])

/-- Answer every request on a link's list for which `p` gives an outcome and a body, in list order: the replies
leave, and the tags and credits become free. -/
def State.answerWhere (s : State) (l : Link) (p : Accepted → Option (ReplyCode × ReplyBody)) : State :=
  let port := s.port l
  let replies := port.accepted.filterMap (fun a => (p a).map (fun x => a.reply l x.1 x.2))
  (s.setPort l { port with accepted := port.accepted.filter (fun a => (p a).isNone) }).setSent (s.sent ++ replies)

/-- The outcome that the link checks 1 to 4 of R192 give a request; `none` when it passes them. -/
def linkRefusal (l : Link) (a : Accepted) : Option ReplyCode :=
  if a.duplicate then some .tagInUse
  else if kindLinks a.frame.kind.toNat = [] then some .unknown
  else if l ∉ kindLinks a.frame.kind.toNat then some .notPermitted
  else if frameRequest a.frame = none then some .range
  else none

/-- The list and the replies after every request at its front that the link checks refuse has been answered in its
turn. Deferred requests keep their places; the first request that passes the checks ends it (log 2). -/
def answerRefusedList (l : Link) : List Accepted → List Accepted × List Reply
  | [] => ([], [])
  | a :: rest =>
    if a.standing = .accepted then
      match linkRefusal l a with
      | some c => ((answerRefusedList l rest).1, a.reply l c .empty :: (answerRefusedList l rest).2)
      | none => (a :: rest, [])
    else (a :: (answerRefusedList l rest).1, (answerRefusedList l rest).2)

/-- Answer the refused requests whose turn has come on a link. -/
def State.answerRefused (s : State) (l : Link) : State :=
  let port := s.port l
  (s.setPort l { port with accepted := (answerRefusedList l port.accepted).1 }).setSent
    (s.sent ++ (answerRefusedList l port.accepted).2)

/-- The first request of a link that is accepted and not yet taken. -/
def State.nextRequest (s : State) (l : Link) : Option Accepted :=
  (s.port l).accepted.find? (fun a => a.standing = .accepted)

/-- Change or remove the first request not yet taken: `f` gives what stands in its place. -/
def replaceFirst (f : Accepted → List Accepted) : List Accepted → List Accepted
  | [] => []
  | a :: rest => if a.standing = .accepted then f a ++ rest else a :: replaceFirst f rest

/-- Answer the request being taken on a link. -/
def State.answerTaken (s : State) (l : Link) (a : Accepted) (c : ReplyCode) (b : ReplyBody) : State :=
  let port := s.port l
  let left := s.setPort l { port with accepted := replaceFirst (fun _ => []) port.accepted }
  (left.send (a.reply l c b)).answerRefused l

/-- The request being taken defers its reply: it keeps its tag and its credit. -/
def State.deferTaken (s : State) (l : Link) (st : Standing) : State :=
  let port := s.port l
  (s.setPort l
    { port with accepted := replaceFirst (fun a => [{ a with standing := st }]) port.accepted }).answerRefused l

/-- Tags in use on a link: those of the requests on its list, less the duplicates (R191). -/
def Port.tagsInUse (p : Port) : List Nat := (p.accepted.filter (fun a => !a.duplicate)).map (fun a => frameTag a.frame)

/-! ## Grain masks -/

/-- The mask of `n` positions from `off` on. -/
def maskRange (off n : Nat) : Mask := BitVec.ofNat 64 ((2 ^ n - 1) * 2 ^ off)

/-- Mask A minus mask B. -/
def maskMinus (a b : Mask) : Mask := a &&& ~~~b

/-- Number of grains of a mask. -/
def maskCount (m : Mask) : Nat := (List.range 64).countP (fun i => m.getLsbD i)

/-! ## The record table (R1 to R3) -/

/-- The grain after a record's last. -/
def Rec.stop (r : Rec) : Nat := r.first + r.len

def Rec.covers (r : Rec) (g : Nat) : Bool := decide (r.first ≤ g) && decide (g < r.stop)

/-- The record meets the range of `n` grains from `g`. -/
def Rec.meets (r : Rec) (g n : Nat) : Bool := decide (r.first < g + n) && decide (g < r.stop)

/-- First grain and number of the record's grains in a range that it meets. -/
def Rec.part (r : Rec) (g n : Nat) : Nat × Nat :=
  let lo := max r.first g
  (lo, min r.stop (g + n) - lo)

/-- Mask positions of the record's grains in a range that it meets. -/
def Rec.partMask (r : Rec) (g n : Nat) : Mask := maskRange ((r.part g n).1 - r.first) (r.part g n).2

/-- The record holds a slot list (R4). -/
def Rec.onFlash (r : Rec) : Bool :=
  match r.state with
  | .tracked | .promoting => false
  | .mirrored | .dirty | .writingBack => true

/-- The band of a grain (section 6.1 of the overview). -/
def bandOf (g : Nat) : Nat := g / 64

def State.records (s : State) : List Rec := s.map.records

def State.setRecords (s : State) (rs : List Rec) : State := s.setMap { s.map with records := rs }

/-- Lookup of a grain (R3). -/
def State.recordAt (s : State) (g : Nat) : Option Rec := s.records.find? (fun r => r.covers g)

/-- The record of an id. -/
def State.recordOf (s : State) (id : Nat) : Option Rec := s.records.find? (fun r => r.id = id)

/-- Lookup of a range: the records it meets, in ascending first grain (R3). -/
def State.recordsMeeting (s : State) (g n : Nat) : List Rec := s.records.filter (fun r => r.meets g n)

/-- Put a record in its place by first grain. -/
def insertRec (r : Rec) : List Rec → List Rec
  | [] => [r]
  | x :: xs => if r.first < x.first then r :: x :: xs else x :: insertRec r xs

/-- The cursor of the checkpoint pass in its record phase stands at a record id. -/
def Pass.stands (id : Nat) (p : Pass) : Bool :=
  match p.phase with
  | .records cursor => cursor = id
  | .retired _ | .ended _ => false

/-- A record is made. The walks whose cursors stand at its place will not visit it (R101, R154; log 49). -/
def State.addRecord (s : State) (r : Rec) : State :=
  s.setMap
    { s.map with
      records := insertRec r s.records
      sweepNew := s.map.sweepNew || decide (s.plan.cursor = some r.id)
      passNew := s.map.passNew || s.jrn.pass.any (Pass.stands r.id) }

/-- Change the record of an id. -/
def State.updateRecord (s : State) (id : Nat) (f : Rec → Rec) : State :=
  s.setRecords (s.records.map (fun r => if r.id = id then f r else r))

/-- The first number from `i` on that is not used, within `fuel` numbers. -/
def lowestFrom (used : List Nat) : Nat → Nat → Nat
  | 0, i => i
  | fuel + 1, i => if i ∈ used then lowestFrom used fuel (i + 1) else i

/-- The lowest number not used. -/
def lowestUnused (used : List Nat) : Nat := lowestFrom used used.length 0

/-- The lowest free record id, if a place is free (R2). -/
def State.freeId (s : State) : Option Nat :=
  let i := lowestUnused (s.records.map (fun r => r.id))
  if i < Config.recordPlaces then some i else none

/-- Free record places. -/
def State.freePlaces (s : State) : Nat := Config.recordPlaces - s.records.length

/-- The maximal runs of consecutive grains of a range for which `p` holds, cut at band boundaries, in ascending
order, each a first grain and a count. -/
def grainRuns (p : Nat → Bool) : Nat → Nat → List (Nat × Nat)
  | _, 0 => []
  | g, n + 1 =>
    if p g then
      match grainRuns p (g + 1) n with
      | [] => [(g, 1)]
      | (f, c) :: more => if f = g + 1 ∧ f % 64 ≠ 0 then (g, c + 1) :: more else (g, 1) :: (f, c) :: more
    else grainRuns p (g + 1) n

/-- The gaps of a range: its maximal untracked runs within a band (R15). -/
def State.gaps (s : State) (g n : Nat) : List (Nat × Nat) := grainRuns (fun x => (s.recordAt x).isNone) g n

/-! ## Counts and marks (R28, R71, R78, R106) -/

def State.countState (s : State) (st : RecState) : Nat := s.records.countP (fun r => r.state = st)

def State.dirtyGrains (s : State) : Nat := (s.records.map (fun r => maskCount r.dirty)).sum

def State.pinnedGrains (s : State) : Nat := ((s.records.filter (fun r => r.pinned)).map (fun r => r.len)).sum

/-- Active slots: SLOT_COUNT minus the retired count (R78). -/
def State.activeSlots (s : State) : Nat := s.map.slotCount - s.pool.retired.length

/-- The pin limit (R71). -/
def State.pinLimit (s : State) : Nat := s.activeSlots * s.params.pinPercent / 100

/-- The low mark (R106). -/
def State.lowMark (s : State) : Nat := s.activeSlots * s.params.dirtyLow / 100

/-- The high mark (R106). -/
def State.highMark (s : State) : Nat := s.activeSlots * s.params.dirtyHigh / 100

/-- Open writes of the write table. -/
def State.openWrites (s : State) : Nat := s.writes.handles.countP (fun h => h.write.isSome)

/-! ## Flags, windows and conditions held as views -/

/-- The candidate flag of a record (R92). -/
def State.isCandidate (s : State) (id : Nat) : Bool := s.plan.candidates.any (fun c => c.record = id)

/-- The retiring flag of a record (R12, R86). -/
def State.isRetiring (s : State) (id : Nat) : Bool := s.pool.pendingRetire.any (fun p => p.holder = .record id)

/-- The job of an id. -/
def State.jobOf (s : State) (id : Nat) : Option Job := s.work.jobs.find? (fun j => j.id = id)

/-- The job on a record. -/
def State.jobOn (s : State) (record : Nat) : Option Job := s.work.jobs.find? (fun j => j.record = record)

/-- The job counts as issued: its order stands in an issued set (R57). -/
def State.jobIssued (s : State) (j : Job) : Bool := (s.work.dIssued ++ s.work.fIssued).any (fun o => o.id = j.id)

/-- Window `n` is BUSY exactly when job `n` exists (R88). -/
def State.windowBusy (s : State) (n : Nat) : Bool := (s.jobOf n).isSome

/-- Window `n` is FENCED (R89). -/
def State.windowFenced (s : State) (n : Nat) : Bool := s.work.windowFences.any (fun w => w.window = n)

/-- The FREE windows, lowest first (R88). -/
def State.freeWindows (s : State) : List Nat :=
  (List.range Config.windows).filter (fun n => !s.windowBusy n && !s.windowFenced n)

/-- A quiesce is in progress. -/
def State.quiescing (s : State) : Bool :=
  match s.supply.mode with
  | .quiescing _ _ _ => true
  | .run | .doze | .retain | .hibernate => false

/-- The withdrawal condition (R135). -/
def State.withdrawing (s : State) : Bool := s.supply.warning || s.quiescing

/-- The part is in neither RETAIN nor HIBERNATE and is not held in reset: its links take requests and its blocks
work (log 10), while RSTn is low too (log 61). -/
def State.awake (s : State) : Bool :=
  s.supply.heldLowest.isNone && s.supply.mode ≠ .retain && s.supply.mode ≠ .hibernate

def State.serving (s : State) : Bool := s.recovery.service = .serving

/-- SLOT_COUNT is known: in FORMATTING and SERVING (R87). -/
def State.slotCountKnown (s : State) : Bool :=
  match s.recovery.service with
  | .formatting | .serving => true
  | .waiting | .recovering | .blank => false

/-- The write-back marks can be worked out: the map has its SLOT_COUNT, which RESUME keeps and the end of a replay
sets (R106; log 25). -/
def State.marksKnown (s : State) : Bool :=
  match s.recovery.phase with
  | .resume | .restate => true
  | .none | .hunt _ | .replay _ => s.slotCountKnown

/-- The part works and serves placement requests. -/
def State.works (s : State) : Bool := s.awake && s.serving

end Sys2Proof.Machine
end

