-- ==== Sys2Proof/Machine/Heat.lean ====
section
/-! DEFINITION. The heat unit's arithmetic (chapter 2): current heat, touches, density, the stream table, the write
budget. -/

namespace Sys2Proof.Machine

/-- Current heat at epoch counter `c` (R35); an E above C gives age 0. -/
def Rec.currentHeat (r : Rec) (c : Nat) : Nat := r.heat / 2 ^ min (c - r.epoch) 16

/-- A touch with weight `w` (R36). -/
def Rec.touched (r : Rec) (w c : Nat) : Rec := { r with heat := min 65535 (r.currentHeat c + w), epoch := c }

/-- The reciprocal Q of an extent length (R39). -/
def reciprocal (len : Nat) : Nat := min 4095 (4096 / len)

/-- Density (R40). -/
def Rec.density (r : Rec) (c : Nat) : Nat := r.currentHeat c * reciprocal r.len / 64

/-- The weight of a LOCATE's touch (R37). -/
def State.locateWeight (s : State) (r : Rec) : Nat :=
  if r.onFlash then s.params.wFlashRead
  else if s.work.spindle = .spinning then s.params.wPlatterRead
  else s.params.wWakeRead

/-- The stream table matched with a range: whether the request is streamed, and the table after it (R44, R45). -/
def streamMatch (table : List StreamEntry) (streamMin first count : Nat) : Bool × List StreamEntry :=
  let next := first + count
  match table.find? (fun e => e.next = first) with
  | some e =>
    let run := min 65535 (e.run + count)
    (decide (streamMin ≤ run),
      { next := next, run := run } :: table.filter (fun x => x.next ≠ first && x.next ≠ next))
  | none => (false, { next := next, run := count } :: (table.filter (fun x => x.next ≠ next)).take 7)

/-- The classification of a request, from the table as it stands (R46). -/
def State.isStreamed (s : State) (first count : Nat) : Bool :=
  (streamMatch s.heat.stream s.params.streamMin first count).1

/-- The stream table changed by a request. -/
def State.streamUpdate (s : State) (first count : Nat) : State :=
  s.setHeat { s.heat with stream := (streamMatch s.heat.stream s.params.streamMin first count).2 }

/-- A debit with a floor of 0 (R48, R49). -/
def State.debit (s : State) (grains : Nat) : State := s.setHeat { s.heat with budget := s.heat.budget - grains }

/-- The refill of an epoch tick (R47). -/
def State.refill (s : State) : State :=
  s.setHeat { s.heat with budget := min s.params.budgetCap (s.heat.budget + s.params.budgetRate) }

end Sys2Proof.Machine
end

