-- ==== Sys2Proof/Machine/PlannerLists.lean ====
section
/-! DEFINITION. The planner's lists (sections 5.1 to 5.3): offers and departures of the candidate list with its head
check, the victim list, the dirty list; and the judgement of SPIN_WANTED (R109). -/

namespace Sys2Proof.Machine

def State.setCandidates (s : State) (cs : List Candidate) : State := s.setPlan { s.plan with candidates := cs }

/-! ## Candidate list (R92 to R95) -/

/-- The head check of an entry fails: its record is unpinned and its current density is below T_PROMOTE (R95). -/
def State.headFails (s : State) (c : Candidate) : Bool :=
  match s.recordOf c.record with
  | none => false
  | some r => !r.pinned && decide (r.density s.heat.epoch < s.params.tPromote)

/-- The head check: a head that fails leaves and the next entry is checked in turn. -/
def State.headCheck (s : State) : State := s.setCandidates (s.plan.candidates.dropWhile s.headFails)

/-- Put a changed list in place; an entry that becomes the head is checked at once (log 38). -/
def State.replaceCandidates (s : State) (cs : List Candidate) : State :=
  if cs.head?.map (fun c => c.record) = s.plan.candidates.head?.map (fun c => c.record) then s.setCandidates cs
  else (s.setCandidates cs).headCheck

/-- An entry leaves the list. -/
def State.removeCandidate (s : State) (id : Nat) : State :=
  s.replaceCandidates (s.plan.candidates.filter (fun c => c.record ≠ id))

/-- The order of arrival of an entry that enters a part now. -/
def nextArrival (cs : List Candidate) : Nat := cs.foldl (fun m c => max m (c.arrival + 1)) 0

/-- An entry enters the tail of the pinned part. -/
def insertPinned (c : Candidate) (cs : List Candidate) : List Candidate :=
  cs.takeWhile (fun x => x.pinned) ++ c :: cs.dropWhile (fun x => x.pinned)

/-- An entry stands in the unpinned part by descending hint, among equal hints by arrival. -/
def insertUnpinned (c : Candidate) : List Candidate → List Candidate
  | [] => [c]
  | x :: xs =>
    if !x.pinned && (decide (x.hint < c.hint) || (decide (x.hint = c.hint) && decide (c.arrival < x.arrival))) then
      c :: x :: xs
    else x :: insertUnpinned c xs

/-- The list after the offer of a record that is not on it (R93). -/
def offerNew (cs : List Candidate) (r : Rec) (hint tPromote : Nat) : List Candidate :=
  let c : Candidate := { record := r.id, hint := hint, pinned := r.pinned, arrival := nextArrival cs }
  let enter := fun (xs : List Candidate) => if r.pinned then insertPinned c xs else insertUnpinned c xs
  if !r.pinned && decide (hint < tPromote) then cs
  else if cs.length < Config.candidateEntries then enter cs
  else
    match cs.getLast? with
    | none => cs
    | some low =>
      if low.pinned then cs
      else if r.pinned || decide (low.hint < hint) then enter cs.dropLast
      else cs

/-- The list after the offer of a record that stands on it as `old` (R94). -/
def offerListed (cs : List Candidate) (old : Candidate) (r : Rec) (hint tPromote : Nat) : List Candidate :=
  let rest := cs.filter (fun c => c.record ≠ r.id)
  if r.pinned then
    if old.pinned then cs.map (fun c => if c.record = r.id then { c with hint := hint } else c)
    else insertPinned { old with hint := hint, pinned := true, arrival := nextArrival cs } rest
  else if hint < tPromote then rest
  else if old.pinned then
    insertUnpinned { old with hint := hint, pinned := false, arrival := nextArrival cs } rest
  else insertUnpinned { old with hint := hint } rest

/-- Offer a TRACKED record with its current density (R93, R94). -/
def State.offerCandidate (s : State) (id : Nat) : State :=
  match s.recordOf id with
  | none => s
  | some r =>
    if r.state ≠ .tracked then s
    else
      let hint := r.density s.heat.epoch
      match s.plan.candidates.find? (fun c => c.record = id) with
      | none => s.replaceCandidates (offerNew s.plan.candidates r hint s.params.tPromote)
      | some old => s.replaceCandidates (offerListed s.plan.candidates old r hint s.params.tPromote)

/-- The promotion evaluation after a touch (R41): a record that is on the list, or whose density reaches T_PROMOTE,
is offered. -/
def State.evaluate (s : State) (id : Nat) : State :=
  match s.recordOf id with
  | none => s
  | some r =>
    if r.state = .tracked && (s.isCandidate id || decide (s.params.tPromote ≤ r.density s.heat.epoch)) then
      s.offerCandidate id
    else s

/-- Touch a record and evaluate it (R36, R41). -/
def State.touch (s : State) (id weight : Nat) : State :=
  (s.updateRecord id (fun r => r.touched weight s.heat.epoch)).evaluate id

/-! ## Victim list (R96, R102) -/

/-- Put a victim in its place by ascending hint, after its equals. -/
def insertVictim (v : Victim) : List Victim → List Victim
  | [] => [v]
  | x :: xs => if v.hint < x.hint then v :: x :: xs else x :: insertVictim v xs

/-- The list under rebuild after an offer: 32 entries at most, the highest hint leaving (R102). -/
def offerVictim (v : Victim) (vs : List Victim) : List Victim :=
  if vs.length < Config.victimEntries then insertVictim v vs
  else
    match vs.getLast? with
    | none => vs
    | some high => if v.hint < high.hint then insertVictim v vs.dropLast else vs

/-- A record leaves the victim list in use. -/
def State.removeVictim (s : State) (id : Nat) : State :=
  s.setPlan { s.plan with victims := s.plan.victims.filter (fun v => v.record ≠ id) }

/-! ## Dirty list (R97) -/

/-- Join at the tail, if the record is not on the list already. -/
def State.dirtyTail (s : State) (id : Nat) : State :=
  if id ∈ s.plan.dirtyList then s else s.setPlan { s.plan with dirtyList := s.plan.dirtyList ++ [id] }

/-- Stand at the head, leaving the place in the list. -/
def State.dirtyHead (s : State) (id : Nat) : State :=
  s.setPlan { s.plan with dirtyList := id :: s.plan.dirtyList.filter (fun x => x ≠ id) }

/-- Leave the list. -/
def State.dirtyLeave (s : State) (id : Nat) : State :=
  s.setPlan { s.plan with dirtyList := s.plan.dirtyList.filter (fun x => x ≠ id) }

/-! ## Dropping a record -/

/-- Every open write loses its listing of a record (R8, R63). -/
def State.dropListings (s : State) (id : Nat) : State :=
  s.setWrites
    { s.writes with
      handles := s.writes.handles.map (fun h =>
        { h with write := h.write.map (fun w =>
          { w with listings := w.listings.filter (fun x => x.record ≠ id) }) }) }

/-- A record is dropped: its id becomes free and it leaves every list (R2, R8, R13, R96, R97). -/
def State.dropRecord (s : State) (id : Nat) : State :=
  let s := s.setRecords (s.records.filter (fun r => r.id ≠ id))
  let s := (s.removeCandidate id).removeVictim id
  let s := s.setPlan { s.plan with rebuild := s.plan.rebuild.map (fun vs => vs.filter (fun v => v.record ≠ id)) }
  (s.dirtyLeave id).dropListings id

/-! ## SPIN_WANTED (R109) -/

/-- The arming is judged, and SPIN_WANTED raised, where there is a high mark to judge it by (log 25). -/
def State.judgeSpinWanted (s : State) : State :=
  if !s.marksKnown then s
  else if s.dirtyGrains < s.highMark then s.setPlan { s.plan with armed := true }
  else if s.plan.armed && s.work.spindle ≠ .spinning then
    (s.setPlan { s.plan with armed := false }).raise .dLink (.spinWanted .dirtyHigh)
  else s

end Sys2Proof.Machine
end

