-- ==== Sys2Proof/Machine/OrderOps.lean ====
section
/-! DEFINITION. Orders, their ids and generations, the waiting queues and ORDERS_READY (R119 to R125). -/

namespace Sys2Proof.Machine

/-- Current generation of an order id. -/
def State.genOf (s : State) (id : Nat) : Nat := s.work.gens.getD id 0

/-- The generation of an id rises by 1, wrapping from 15 to 0 (R119). -/
def State.bumpGen (s : State) (id : Nat) : State :=
  s.setWork { s.work with gens := s.work.gens.set id ((s.genOf id + 1) % 16) }

/-- ORDERS_READY on the F-link for an order that joins an empty queue (R125). -/
def State.readyF (s : State) : State :=
  if s.work.pageQueue.isEmpty && s.work.migQueue.isEmpty then s.raise .fLink (.ordersReady 1) else s

/-- ORDERS_READY on the D-link for an order that joins an empty queue while the spindle spins (R125). -/
def State.readyD (s : State) : State :=
  if s.work.dQueue.isEmpty && s.work.spindle = .spinning then s.raise .dLink (.ordersReady 1) else s

/-- An order joins the tail of the D-link queue. -/
def State.joinD (s : State) (o : Order) : State :=
  let s := s.readyD
  s.setWork { s.work with dQueue := s.work.dQueue ++ [o] }

/-- An order joins the tail of the F-link migration class. -/
def State.joinMig (s : State) (o : Order) : State :=
  let s := s.readyF
  s.setWork { s.work with migQueue := s.work.migQueue ++ [o] }

/-- An order joins the page class at its head or its tail. -/
def State.joinPage (s : State) (o : Order) (atHead : Bool) : State :=
  s.setWork
    { s.work with pageQueue := if atHead then o :: s.work.pageQueue else s.work.pageQueue ++ [o] }

/-- An id of the page orders is free: no order has it and no fence names it (R119, R139). -/
def State.pageIdFree (s : State) (id : Nat) : Bool :=
  !(s.work.pageQueue ++ s.work.fIssued).any (fun o => o.id = id) && !s.work.pageFences.any (fun p => p.order = id)

/-- The lowest free page order id from 8 to 31 (R119). -/
def State.freePageId (s : State) : Option Nat :=
  ((List.range 24).map (fun i => i + 8)).find? (fun id => s.pageIdFree id)

/-- A page order fence names a ring page index (R139). -/
def State.indexFenced (s : State) (index : Nat) : Bool := s.work.pageFences.any (fun p => p.index = index)

/-- Make a page order for a ring index and queue it: `none` while no id is free or a fence names the index. A retry
raises no ORDERS_READY (R151). -/
def State.makePageOrder (s : State) (index : Nat) (body : OrderBody) (atHead isRetry : Bool) : Option (State × Nat) :=
  if s.indexFenced index then none
  else
    match s.freePageId with
    | none => none
    | some id => some ((if isRetry then s else s.readyF).joinPage { id := id, body := body } atHead, id)

/-- An order leaves the waiting queues (R133). -/
def State.withdrawOrder (s : State) (id : Nat) : State :=
  s.setWork
    { s.work with
      dQueue := s.work.dQueue.filter (fun o => o.id ≠ id)
      migQueue := s.work.migQueue.filter (fun o => o.id ≠ id) }

/-- The issued set of a channel link. -/
def State.issued (s : State) : Link → List Order
  | .dLink => s.work.dIssued
  | .fLink => s.work.fIssued
  | .iLink => []

/-- Put an issued set in place. -/
def State.setIssued (s : State) (l : Link) (os : List Order) : State :=
  match l with
  | .dLink => s.setWork { s.work with dIssued := os }
  | .fLink => s.setWork { s.work with fIssued := os }
  | .iLink => s

end Sys2Proof.Machine
end

