-- ==== Sys2Proof/Machine/JournalOps.lean ====
section
/-! DEFINITION. The map journal's operations (chapter 7): the entries of a record, room for a set of entries,
placement, page images and their orders, opening of pages, the durable JSN. -/

namespace Sys2Proof.Machine

/-! ## Entries of records (R141, R154) -/

/-- How an entry describes a record: PROMOTING as TRACKED, WRITING_BACK as DIRTY with both masks. -/
def Rec.entryBody (r : Rec) : ExtentBody :=
  let base : ExtentBody :=
    { first := r.first, len := r.len, state := .tracked, pinned := r.pinned, absorbOpen := r.absorbOpen
      heat := r.heat, epoch := r.epoch, dirty := 0, slots := [] }
  match r.state with
  | .tracked | .promoting => base
  | .mirrored => { base with state := .mirrored, slots := r.slots }
  | .dirty =>
    { base with state := .dirty, slots := r.slots, dirty := if r.absorbOpen then maskRange 0 r.len else r.dirty }
  | .writingBack => { base with state := .dirty, slots := r.slots, dirty := r.dirty ||| r.rewrite }

/-! ## Conditions (R145, R146) -/

/-- The open page holds a pass's entries alone and the pass is in progress (R145, log 14). -/
def State.passBlocked (s : State) : Bool :=
  match s.jrn.page with
  | none => false
  | some p => p.passOnly && s.jrn.pass.isSome

/-- The journal is stalled (R146). -/
def State.stalled (s : State) : Bool :=
  match s.jrn.page with
  | none => true
  | some p => p.full || s.passBlocked

/-- Page head + 1 may open under the ring limit: tail + P for a pass's own entries, 1,024 less for others during a
pass, none while the map is restated (R143, R145, R171). -/
def State.canOpenNext (s : State) (own : Bool) : Bool :=
  decide (s.jrn.head + 1 ≤ Config.top32) &&
    match s.recovery.phase with
    | .restate => true
    | .none | .hunt _ | .replay _ | .resume =>
      let limit := s.jrn.tail + s.recovery.ringPages
      if !own && s.jrn.pass.isSome then decide (s.jrn.head + 1 < limit - Config.passReserve)
      else decide (s.jrn.head + 1 < limit)

/-- An image of the open page can be made now: one of its PSN that is not issued is replaced, or a place is free
(R148, log 13). -/
def State.canMakeImage (s : State) : Bool :=
  s.jrn.images.any (fun i =>
    i.page.psn = s.jrn.head &&
      match i.state with
      | .issued _ => false
      | .waiting _ | .held _ => true) ||
    decide (s.jrn.images.length < Config.pageImages)

/-! ## Images and their orders (R147 to R149) -/

def State.setImages (s : State) (is : List Image) : State := s.setJrn { s.jrn with images := is }

/-- The ring page index of a PSN (section 7.2). -/
def State.ringIndex (s : State) (psn : Nat) : Nat := psn % s.recovery.ringPages

def Image.isHeld (i : Image) : Bool :=
  match i.state with
  | .held _ => true
  | .waiting _ | .issued _ => false

/-- Give the held image of a PSN its order, if no image of the PSN has one and an order can be made. -/
def State.giveOrder (s : State) (psn : Nat) (isRetry : Bool) : State :=
  if s.jrn.images.any (fun i => i.page.psn = psn && !i.isHeld) then s
  else
    match s.jrn.images.find? (fun i => i.page.psn = psn) with
    | none => s
    | some i =>
      let atHead := match i.state with
        | .held h => h
        | .waiting _ | .issued _ => false
      match s.makePageOrder (s.ringIndex psn) (.pageWrite (s.ringIndex psn) i.page) atHead isRetry with
      | none => s
      | some (t, id) =>
        t.setImages (t.jrn.images.map (fun x =>
          if x.page.psn = psn then { x with state := .waiting id } else x))

/-- Give held images their orders, the one that has waited longest first (R119, R148). A FINISH serves a held image of
its own PSN before these (log 64). -/
def State.giveOrders (s : State) : State :=
  (s.jrn.images.map (fun i => i.page.psn)).foldl (fun t psn => t.giveOrder psn false) s

/-- The page image of the open page as it stands (R143). -/
def State.imageOf (s : State) (p : OpenPage) : Page where
  psn := s.jrn.head
  firstJsn := p.firstJsn
  epoch := s.heat.epoch
  tail := s.jrn.tail
  slotCount := s.map.slotCount
  diskGrains := s.map.diskGrains
  entries := p.entries

/-- Make the image of the open page, where `canMakeImage` holds (R148, R149): it replaces a waiting or held one of
its PSN, is held behind an issued one, or is new and receives an order. It takes over the urgency of an emission that
is pending (R147). -/
def State.makeImage (s : State) (urgent : Bool) : State :=
  match s.jrn.page with
  | none => s
  | some p =>
    let urgent := urgent || s.jrn.pendingEmission.getD false
    let img := s.imageOf p
    let psn := s.jrn.head
    let s := s.setJrn
      { s.jrn with
        page := some { p with unemitted := 0, linger := none, finalMade := p.full }
        pendingEmission := none }
    match s.jrn.images.find? (fun i => i.page.psn = psn &&
        match i.state with
        | .issued _ => false
        | .waiting _ | .held _ => true) with
    | some old =>
      match old.state with
      | .waiting id =>
        let s := s.setImages (s.jrn.images.map (fun i => if i = old then { old with page := img } else i))
        let s := s.setWork
          { s.work with pageQueue := s.work.pageQueue.map (fun o =>
            if o.id = id then { o with body := .pageWrite (s.ringIndex psn) img } else o) }
        s.bumpGen id
      | .held h =>
        s.setImages (s.jrn.images.map (fun i =>
          if i = old then { page := img, state := .held (h || urgent) } else i))
      | .issued _ => s
    | none =>
      let behind := s.jrn.images.any (fun i => i.page.psn = psn)
      (s.setImages (s.jrn.images ++ [{ page := img, state := .held (behind || urgent) }])).giveOrders

/-- An emission for any cause but fullness (R147): made when the page holds unemitted entries, remembered as pending
when no image can be made at once, and not made in JOURNAL_FAULT. -/
def State.emit (s : State) (urgent : Bool) : State :=
  match s.jrn.page with
  | none => s
  | some p =>
    if p.unemitted = 0 || s.jrn.fault.isSome then s
    else if s.canMakeImage then s.makeImage urgent
    else s.setJrn { s.jrn with pendingEmission := some (urgent || s.jrn.pendingEmission.getD false) }

/-! ## Opening of pages and room (R145) -/

/-- The final emission of a full page, when its image can be made. -/
def State.tryFinal (s : State) : State :=
  match s.jrn.page with
  | none => s
  | some p => if p.full && !p.finalMade && s.jrn.fault.isNone && s.canMakeImage then s.makeImage false else s

/-- The pending emission, when its image can be made. -/
def State.tryPending (s : State) : State :=
  match s.jrn.pendingEmission with
  | none => s
  | some urgent => if s.canMakeImage then s.emit urgent else s

/-- Page head + 1 opens empty. A page that ordinary entries could not open holds the pass's entries alone. -/
def State.openNext (s : State) : State :=
  s.setJrn
    { s.jrn with
      head := s.jrn.head + 1
      page := some
        { firstJsn := jsnNext s.jrn.lastJsn, entries := [], used := 0, full := false, finalMade := false
          passOnly := !s.canOpenNext false, unemitted := 0, linger := none } }

/-- The opening after the final image of a full page exists: no entry and no emission, so in JOURNAL_FAULT too (R145,
R152). -/
def State.tryOpen (s : State) (own : Bool) : State :=
  match s.jrn.page with
  | none => s
  | some p => if p.full && p.finalMade && s.canOpenNext own then s.openNext else s

/-- What an image place or a page order id that becomes free, a lifted fence or a moved tail lets the journal do
(R150): orders of held images, the final emission, pending emissions, the opening of the next page. -/
def State.journalAdvance (s : State) : State := ((s.giveOrders.tryFinal).tryPending).tryOpen false

/-- A pass's next entry needs the page after a full one (R145). -/
def State.prepare (s : State) (own : Bool) : State := if own then s.tryFinal.tryOpen true else s

/-- How many entries of a list, in order, fit in a page with `used` payload bytes. -/
def fitCount : Nat → List Entry → Nat
  | _, [] => 0
  | used, e :: es => if used + e.size ≤ Config.payloadBytes then fitCount (used + e.size) es + 1 else 0

/-- A set of entries can be taken (R145). -/
def State.canTake (s : State) (own : Bool) (es : List Entry) : Bool :=
  es.isEmpty ||
    (s.jrn.fault.isNone &&
      match (s.prepare own).jrn.page with
      | none => false
      | some p =>
        !p.full && (own || !s.passBlocked) &&
          (decide (fitCount p.used es = es.length) ||
            ((s.prepare own).canMakeImage && (s.prepare own).canOpenNext own)))

/-- Place one entry in the open page (R142, R144); the first unemitted one starts the linger timer (R147). -/
def State.placeEntry (s : State) (e : Entry) : State :=
  match s.jrn.page with
  | none => s
  | some p =>
    s.setJrn
      { s.jrn with
        lastJsn := jsnNext s.jrn.lastJsn
        page := some
          { p with
            entries := p.entries ++ [e]
            used := p.used + e.size
            unemitted := p.unemitted + 1
            linger := if p.unemitted = 0 then some s.now else p.linger } }

def State.placeEntries (s : State) (es : List Entry) : State := es.foldl (fun t e => t.placeEntry e) s

/-- The open page becomes full in whatever payload bytes it has left. -/
def State.markFull (s : State) : State :=
  match s.jrn.page with
  | none => s
  | some p => s.setJrn { s.jrn with page := some { p with full := true, finalMade := false } }

/-- Offer a set of entries to the journal (R145): the state after it, and whether the set was taken. A set that
only the page change keeps out makes the open page full. -/
def State.offer (s : State) (own : Bool) (es : List Entry) : State × Bool :=
  if es.isEmpty then (s, true)
  else if s.jrn.fault.isSome then (s, false)
  else
    let s := s.prepare own
    match s.jrn.page with
    | none => (s, false)
    | some p =>
      if p.full || (!own && s.passBlocked) then (s, false)
      else
        let k := fitCount p.used es
        if k = es.length then (s.placeEntries es, true)
        else if s.canMakeImage && s.canOpenNext own then
          (((((s.placeEntries (es.take k)).markFull).makeImage false).openNext).placeEntries (es.drop k), true)
        else (s.markFull.journalAdvance, false)

/-! ## A change with its entries (R27) -/

/-- A map change under way: the state it leaves and the entries it places, in order. -/
structure Change where
  st : State
  entries : List Entry

/-- A change that has placed nothing yet. -/
def Change.start (s : State) : Change := { st := s, entries := [] }

/-- Place an entry. -/
def Change.place (c : Change) (e : Entry) : Change := { c with entries := c.entries ++ [e] }

/-- Change the state. -/
def Change.on (c : Change) (f : State → State) : Change := { c with st := f c.st }

/-- The JSN that the last entry placed takes. -/
def Change.jsn (c : Change) : Nat := jsnAdd c.st.jrn.lastJsn c.entries.length

/-- Make a change, if the journal takes its entries; otherwise the state `s` before it keeps its map, and the journal
may have a page made full. -/
def Change.commit (c : Change) (own : Bool) (s : State) : State × Bool :=
  if (c.st.offer own c.entries).2 then ((c.st.offer own c.entries).1, true) else ((s.offer own c.entries).1, false)

/-! ## The durable JSN (R150) -/

/-- The durable JSN raised over the runs reported DONE that follow it without a gap. -/
def advanceDurable (runs : List WrittenRun) : Nat → Nat → Nat
  | 0, durable => durable
  | fuel + 1, durable =>
    match runs.find? (fun r => decide (jsnSteps r.first (jsnNext durable) < r.count)) with
    | none => durable
    | some r => advanceDurable runs fuel (jsnAdd r.first (r.count - 1))

/-- The runs that may raise the durable JSN: in JOURNAL_FAULT those of the pages before the failed one (R152). -/
def Journal.raising (j : Journal) (runs : List WrittenRun) : List WrittenRun :=
  runs.filter (fun r => j.fault.all (fun f => !jsnLe f.first r.first))

/-- A page image reported DONE joins the written runs and raises the durable JSN. -/
def Journal.markWritten (j : Journal) (p : Page) : Journal :=
  let runs := j.written ++ [{ first := p.firstJsn, count := p.entries.length }]
  let durable := advanceDurable (j.raising runs) runs.length j.durableJsn
  { j with
    durableJsn := durable
    written := runs.filter (fun r => decide (0 < r.count) && !jsnLe (jsnAdd r.first (r.count - 1)) durable) }

end Sys2Proof.Machine
end

