-- ==== Sys2Proof/Machine/PoolOps.lean ====
section
/-! DEFINITION. The slot pool's moves (R79 to R86) and the map changes that release slots or commit an absorption:
release (R24), drop (R23, R25), commit (R23). -/

namespace Sys2Proof.Machine

/-! ## Moves of slots -/

/-- The slots of a list that stand on the pending-retirement list, in ascending slot number. -/
def SlotPool.pendingAmong (p : SlotPool) (slots : List Nat) : List Nat :=
  (p.pendingRetire.filter (fun x => x.slot ∈ slots)).map (fun x => x.slot)

/-- Slots leave the pending-retirement list. -/
def SlotPool.dropPending (p : SlotPool) (slots : List Nat) : SlotPool :=
  { p with pendingRetire := p.pendingRetire.filter (fun x => x.slot ∉ slots) }

/-- A slot joins the pending-retirement list, in its place by slot number. -/
def insertPending (x : PendingSlot) : List PendingSlot → List PendingSlot
  | [] => [x]
  | y :: ys => if x.slot < y.slot then x :: y :: ys else y :: insertPending x ys

/-- Slots of a record enter the quarantine at the tail, keyed by a JSN; pending ones are marked retire-on-exit and
leave the pending-retirement list (R81). -/
def SlotPool.enterQuarantine (p : SlotPool) (slots : List Nat) (jsn : Nat) : SlotPool :=
  let entered := slots.map (fun n => (⟨n, jsn, p.pendingRetire.any (fun x => x.slot = n)⟩ : Quarantined))
  SlotPool.dropPending { p with quarantine := p.quarantine ++ entered } slots

/-- Quarantine entries whose releasing JSN the durable JSN has reached leave from the head (R82). -/
def SlotPool.exitQuarantine (p : SlotPool) (durable : Nat) : SlotPool :=
  let out := p.quarantine.takeWhile (fun q => jsnLe q.jsn durable)
  { p with
    quarantine := p.quarantine.dropWhile (fun q => jsnLe q.jsn durable)
    free := p.free ++ (out.filter (fun q => !q.retire)).map (fun q => q.slot)
    retired := (out.filter (fun q => q.retire)).foldl (fun acc q => insertSorted q.slot acc) p.retired }

/-- A reservation comes back (R80, R86): pending slots go to the retired set, the others to the free pool tail in
reservation order. -/
def SlotPool.returnReservation (p : SlotPool) (slots : List Nat) : SlotPool :=
  let pend := p.pendingAmong slots
  SlotPool.dropPending
    { p with
      free := p.free ++ slots.filter (fun n => n ∉ pend)
      retired := pend.foldl (fun acc n => insertSorted n acc) p.retired } slots

/-! ## Map changes that release slots -/

/-- Transition 12 (R24): EXTENT_SET (TRACKED), the slots to the quarantine keyed by it, then the SLOT_RETIRE entries
of its pending slots (R83, R86). -/
def Change.release (c : Change) (r : Rec) : Change :=
  let tracked : Rec := { r with state := .tracked, slots := [], attempts := 0 }
  let c := c.place (.extentSet tracked.entryBody)
  let retirees := c.st.pool.pendingAmong r.slots
  let c := c.on (fun s => (s.updateRecord r.id (fun _ => tracked)).setPool (s.pool.enterQuarantine r.slots c.jsn))
  retirees.foldl (fun c n => c.place (.slotRetire n)) c

/-- Transitions 7 and 14 with an entry (R23, R25): EXTENT_DROP, the slots to the quarantine keyed by it, then the
SLOT_RETIRE entries of its pending slots (log 19). -/
def Change.drop (c : Change) (r : Rec) : Change :=
  let c := c.place (.extentDrop r.first r.len)
  let retirees := c.st.pool.pendingAmong r.slots
  let c := c.on (fun s => (s.dropRecord r.id).setPool (s.pool.enterQuarantine r.slots c.jsn))
  retirees.foldl (fun c n => c.place (.slotRetire n)) c

/-- Transition 6 (R23): absorb-open cleared, ABSORB_COMMIT, and the record at the tail of the dirty list. -/
def Change.commitAbsorption (c : Change) (r : Rec) : Change :=
  (c.place (.absorbCommit r.first)).on (fun s =>
    (s.updateRecord r.id (fun x => { x with absorbOpen := false })).dirtyTail r.id)

/-- The record may be released for retirement: retiring, MIRRORED, unpinned, no open writes (R12). -/
def State.releaseDue (s : State) (id : Nat) : Bool :=
  match s.recordOf id with
  | none => false
  | some r => r.state = .mirrored && !r.pinned && r.openWrites = 0 && s.isRetiring id

/-- The retirement release of R12, attempted: made when the journal takes its entries, and left waiting otherwise. -/
def State.attemptRelease (s : State) (id : Nat) : State :=
  match s.recordOf id with
  | none => s
  | some r => if s.releaseDue id then (((Change.start s).release r).commit false s).1 else s

/-- The retirement release would find room for its entries. -/
def State.releaseReady (s : State) (id : Nat) : Bool :=
  match s.recordOf id with
  | none => false
  | some r => s.releaseDue id && s.canTake false ((Change.start s).release r).entries

end Sys2Proof.Machine
end

