-- ==== Sys2Proof/Machine/JobOps.lean ====
section
/-! DEFINITION. The ends of jobs (R118, R128 to R135): completion, cancellation, failure, and the withdrawal of
waiting orders. -/

namespace Sys2Proof.Machine

/-- Put a job in its place by id. -/
def insertJob (j : Job) : List Job → List Job
  | [] => [j]
  | x :: xs => if j.id < x.id then j :: x :: xs else x :: insertJob j xs

def State.updateJob (s : State) (id : Nat) (f : Job → Job) : State :=
  s.setWork { s.work with jobs := s.work.jobs.map (fun j => if j.id = id then f j else j) }

/-- A job ends: its entry leaves the table, its order leaves the queues, and its window becomes FREE (R115). -/
def State.endJob (s : State) (id : Nat) : State :=
  let s := s.withdrawOrder id
  s.setWork
    { s.work with
      jobs := s.work.jobs.filter (fun j => j.id ≠ id)
      completing := s.work.completing.filter (fun x => x ≠ id) }

/-- Transition 11 on a record: DIRTY again, the rewrite mask folded in. -/
def Rec.rolledBack (r : Rec) : Rec :=
  { r with state := .dirty, dirty := r.dirty ||| r.rewrite, rewrite := 0 }

/-- A job ends as cancelled (R134). -/
def State.cancelJob (s : State) (j : Job) : State :=
  let s := s.endJob j.id
  match j.kind with
  | .promote reservation =>
    let s := s.updateRecord j.record (fun r => { r with state := .tracked })
    (s.setPool (s.pool.returnReservation reservation)).offerCandidate j.record
  | .writeback _ => (s.updateRecord j.record Rec.rolledBack).dirtyHead j.record

/-- A job ends by failure (R130, R131). A failed flash read that was the third failed write-back raises
DATA_AT_RISK. -/
def State.failJob (s : State) (j : Job) : State :=
  let s := s.endJob j.id
  match j.kind with
  | .promote reservation =>
    let s := s.updateRecord j.record (fun r => { r with state := .tracked, heat := 0 })
    s.setPool (s.pool.returnReservation reservation)
  | .writeback _ =>
    let s := s.updateRecord j.record (fun r => { r.rolledBack with attempts := r.attempts + 1, wbFailed := true })
    let s := s.dirtyLeave j.record
    match s.recordOf j.record with
    | none => s
    | some r =>
      if j.stage = .one && decide (3 ≤ r.attempts) then s.raise .iLink (.dataAtRisk r.first r.len) else s

/-- The map change of a job's completion with its EXTENT_SET (R18, R19, R118). -/
def State.completionChange (s : State) (j : Job) : Change :=
  match s.recordOf j.record with
  | none => (Change.start s).on (fun t => t.endJob j.id)
  | some r =>
    match j.kind with
    | .promote reservation =>
      let done : Rec := { r with state := .mirrored, slots := reservation, dirty := 0 }
      ((Change.start s).place (.extentSet done.entryBody)).on (fun t =>
        (t.endJob j.id).updateRecord r.id (fun _ => done))
    | .writeback snapshot =>
      let mask := maskMinus r.dirty snapshot ||| r.rewrite
      if mask = 0 then
        let done : Rec := { r with state := .mirrored, dirty := 0, rewrite := 0, attempts := 0, wbFailed := false }
        ((Change.start s).place (.extentSet done.entryBody)).on (fun t =>
          (t.endJob j.id).updateRecord r.id (fun _ => done))
      else
        let done : Rec := { r with state := .dirty, dirty := mask, rewrite := 0 }
        ((Change.start s).place (.extentSet done.entryBody)).on (fun t =>
          ((t.endJob j.id).updateRecord r.id (fun _ => done)).dirtyTail r.id)

/-- A job completes, if the journal takes its entry; the retirement release of R12 is then attempted. The Bool says
whether it completed. -/
def State.tryComplete (s : State) (j : Job) : State × Bool :=
  let x := (s.completionChange j).commit false s
  if x.2 then (x.1.attemptRelease j.record, true) else x

/-- A job whose entry could not be taken enters COMPLETING (R118). -/
def State.enterCompleting (s : State) (id : Nat) : State :=
  let s := s.updateJob id (fun j => { j with stage := .completing })
  s.setWork { s.work with completing := s.work.completing ++ [id] }

/-- The job's current order waits in a queue. -/
def State.jobWaits (s : State) (j : Job) : Bool := j.stage ≠ .completing && !s.jobIssued j

/-- When the withdrawal condition starts to hold, every job whose order waits is cancelled, in ascending id (R135). -/
def State.withdrawWaiting (s : State) : State :=
  (s.work.jobs.filter (fun j => s.jobWaits j)).foldl (fun t j => t.cancelJob j) s

end Sys2Proof.Machine
end

