-- ==== Sys2Proof/Machine/Starts.lean ====
section
/-! DEFINITION. The conditions of the planner's starts (R98, R107), and the start that is owed (R110). -/

namespace Sys2Proof.Machine

/-- The planner may start work: SERVING, RUN, no warning, journal neither stalled nor at fault (R98, R107). -/
def State.mayStart (s : State) : Bool :=
  s.works && s.supply.mode = .run && !s.supply.warning && !s.stalled && s.jrn.fault.isNone

/-- The head record of the candidate list. -/
def State.headRecord (s : State) : Option Rec := s.plan.candidates.head?.bind (fun c => s.recordOf c.record)

/-- The write budget allows the promotion of a record (R48). -/
def State.budgetAllows (s : State) (r : Rec) : Bool := r.pinned || decide (r.len ≤ s.heat.budget)

/-- The head check of R95 passes. -/
def State.headPasses (s : State) (r : Rec) : Bool := r.pinned || decide (s.params.tPromote ≤ r.density s.heat.epoch)

/-- The head satisfies every condition of R98 but the FREE window and the free pool count. -/
def State.headWanted (s : State) (r : Rec) : Bool :=
  s.mayStart && r.state = .tracked && r.openWrites = 0 && s.budgetAllows r && s.headPasses r

/-- Every condition of R98 holds for the head. -/
def State.headStarts (s : State) (r : Rec) : Bool :=
  s.headWanted r && !s.freeWindows.isEmpty && decide (r.len + s.params.reserveSlots ≤ s.pool.free.length)

/-- A record of the dirty list is eligible (R107). -/
def Rec.eligible (r : Rec) : Bool := r.state = .dirty && r.openWrites = 0 && !r.absorbOpen

/-- The record that write-back selection chooses (R107). -/
def State.writebackChoice (s : State) : Option Rec :=
  let ok := fun (r : Rec) => r.eligible && (decide (s.lowMark < s.dirtyGrains) || s.isRetiring r.id)
  (s.plan.dirtyList.filterMap s.recordOf).find? ok

/-- Every condition of R107 holds but for the choice of record. -/
def State.writebackMayStart (s : State) : Bool :=
  s.mayStart && !s.freeWindows.isEmpty && s.work.spindle = .spinning

/-- A promotion start has its conditions. -/
def State.promotionHolds (s : State) : Bool :=
  match s.headRecord with
  | none => false
  | some r => s.headStarts r

/-- A write-back start has its conditions. -/
def State.writebackHolds (s : State) : Bool := s.writebackMayStart && s.writebackChoice.isSome

/-- A start has its conditions. -/
def State.startHolds (s : State) : Start → Bool
  | .promotion => s.promotionHolds
  | .writeback => s.writebackHolds

/-- No start is owed whose conditions have ceased to hold. -/
def State.owedHolds (s : State) : Bool := s.owed.all s.startHolds

/-- A start that is owed lapses when its conditions cease to hold (R110; log 58). -/
def State.judgeOwed (s : State) : State := if s.owedHolds then s else s.setOwed none

end Sys2Proof.Machine
end

