-- ==== Sys2Proof/Machine/PowerOps.lean ====
section
/-! DEFINITION. Quiescing and its ends (R177 to R179), entry to SERVING, the power-fail warning (R182, R183), and what
every step judges at its end. -/

namespace Sys2Proof.Machine

def State.setMode (s : State) (m : Mode) : State := s.setSupply { s.supply with mode := m }

/-- Answer the POWER request that waits for its quiesce. -/
def State.answerPower (s : State) (c : ReplyCode) (b : ReplyBody) : State :=
  s.answerWhere .iLink (fun a => if a.standing = .powerWaits then some (c, b) else none)

/-- Answer the SYNC requests that wait. -/
def State.answerSyncs (s : State) (p : Nat → Option (ReplyCode × ReplyBody)) : State :=
  s.answerWhere .iLink (fun a =>
    match a.standing with
    | .syncWaits target => p target
    | .accepted | .powerWaits | .formatWaits => none)

/-- Answer the FORMAT request that waits. -/
def State.answerFormat (s : State) (c : ReplyCode) (b : ReplyBody) : State :=
  s.answerWhere .fLink (fun a => if a.standing = .formatWaits then some (c, b) else none)

/-- A walk of the sweep in progress is abandoned and the tick pending flag cleared (R100, R111). -/
def State.abandonWalk (s : State) : State :=
  s.setPlan { s.plan with cursor := none, rebuild := none, tickPending := false }

/-- A quiesce ends in its target mode (R178, R188). -/
def State.enterSleep (s : State) (target : SleepMode) : State :=
  let mode : Mode := match target with
    | .retain => .retain
    | .hibernate => .hibernate
  let memory : MemCondition := match target with
    | .retain => .selfRefresh
    | .hibernate => .off
  ((s.setSupply { s.supply with mode := mode, memory := memory }).answerPower .ok (.mode mode)).abandonWalk

/-- A quiesce ends without its target: the mode is its return mode and the POWER is answered (R179). -/
def State.abortQuiesce (s : State) (c : ReplyCode) : State :=
  match s.supply.mode with
  | .quiescing _ returnDoze _ =>
    (s.setMode (if returnDoze then .doze else .run)).answerPower c .empty
  | .run | .doze | .retain | .hibernate => s

/-- The open page holds unemitted entries. -/
def State.hasUnemitted (s : State) : Bool :=
  match s.jrn.page with
  | none => false
  | some p => decide (0 < p.unemitted)

/-- The conditions of a quiesce judged (R178): with no job, no open write and its pass completed it asks for an
emission (log 59), and it ends when the durable JSN equals the last JSN assigned. While RSTn is held low the map
memory is refreshed and the warm start that follows ends the quiesce, so it enters no target mode (R186, R188; log
11). -/
def State.judgeQuiesce (s : State) : State :=
  match s.supply.mode with
  | .quiescing target _ passDone =>
    if s.supply.rstn = .high && s.work.jobs.isEmpty && s.openWrites = 0 && (target = .retain || passDone) then
      let s := s.emit false
      if s.jrn.durableJsn = s.jrn.lastJsn then s.enterSleep target else s
    else s
  | .run | .doze | .retain | .hibernate => s

/-- RESERVE_SLOTS clamped to a quarter of SLOT_COUNT (R87). -/
def State.clampReserve (s : State) : State :=
  s.setParams { s.params with reserveSlots := min s.params.reserveSlots (s.map.slotCount / 4) }

/-- Entry to SERVING from RECOVERING: RECOVERY_DONE with the last JSN assigned (R170, R171, R173). -/
def State.enterServing (s : State) : State :=
  ((s.setRecovery { s.recovery with service := .serving, phase := .none }).clampReserve).raise .iLink
    (.recoveryDone s.jrn.lastJsn)

/-- What is judged at the end of every step: in SERVING the SPIN_WANTED arming (R109, R113) and the start that is owed
(R110), and then the quiesce (R178). -/
def State.settle (s : State) : State := (if s.serving then s.judgeSpinWanted.judgeOwed else s).judgeQuiesce

/-! ## The power-fail warning (R182 to R184) -/

/-- Warning threshold in mV. -/
def State.warnThreshold (s : State) : Nat := 4400 + 100 * s.params.warnLevel

/-- Clearing level in mV: the threshold plus 0.10 V. -/
def State.clearLevel (s : State) : Nat := s.warnThreshold + 100

/-- A source of the warning holds. -/
def State.warnSource (s : State) : Bool := s.supply.pfwnLow || decide (s.supply.vdd < s.warnThreshold)

/-- The clearing filter may run: PFWn high and VDD at or above the clearing level. -/
def State.filterMayRun (s : State) : Bool := !s.supply.pfwnLow && decide (s.clearLevel ≤ s.supply.vdd)

/-- The warning starts (R183): the urgent emission, in SERVING alone (R184), is made before the waiting jobs are
withdrawn (log 56). -/
def State.startWarning (s : State) : State :=
  let supplyLow := decide (s.supply.vdd < s.warnThreshold)
  let s := s.setSupply { s.supply with warning := true, filter := none }
  let s := s.raiseAll (.powerWarnStart s.supply.pfwnLow supplyLow)
  (if s.serving then s.emit true else s).withdrawWaiting

/-- The filter judged while the warning is active: it begins, goes on or stops (R182). -/
def State.judgeFilter (s : State) : State :=
  s.setSupply { s.supply with filter := if s.filterMayRun then some (s.supply.filter.getD 0) else none }

/-- The warning and its clearing filter are judged: not in HIBERNATE (R181), and not while the part is held in
reset. -/
def State.judgesWarning (s : State) : Bool := s.supply.mode ≠ .hibernate && s.supply.heldLowest.isNone

/-- The warning judged against its threshold and its clearing level (R182). -/
def State.judgeWarning (s : State) : State :=
  if !s.judgesWarning then s
  else if s.supply.warning then s.judgeFilter
  else if s.warnSource then s.startWarning
  else s

/-- The warning clears (R184). -/
def State.clearWarning (s : State) : State :=
  (s.setSupply { s.supply with warning := false, filter := none }).raiseAll .powerWarnClear

/-- Words found with one bit in error are corrected: the count rises, saturating at 65,535 (R189). -/
def State.correctWords (s : State) (n : Nat) : State :=
  s.setSupply { s.supply with corrected := min 65535 (s.supply.corrected + n) }

end Sys2Proof.Machine
end

