-- ==== Sys2Proof/Machine/RecoveryOps.lean ====
section
/-! DEFINITION. The recovery unit (chapter 8): reading the ring, the hunt, the replay and its end, the format page;
and the ends of page orders in the map journal (R150 to R152). -/

namespace Sys2Proof.Machine

/-- Outcomes of FINISH (section 11.6). -/
inductive FinishOutcome where
  | done
  | failed
  | aborted
  deriving DecidableEq, Repr

def FinishOutcome.ofCode : Nat → Option FinishOutcome
  | 0 => some .done
  | 1 => some .failed
  | 2 => some .aborted
  | _ => none

def State.setPhase (s : State) (p : Phase) : State := s.setRecovery { s.recovery with phase := p }

/-! ## Making the recovery unit's page orders -/

/-- The format page (R172). -/
def State.formatPage (s : State) : Page where
  psn := 0
  firstJsn := 0
  epoch := 0
  tail := 0
  slotCount := s.map.slotCount
  diskGrains := s.map.diskGrains
  entries := [.ckptBegin 0, .ckptEnd 0]

/-- Make the order of a PAGE_READ, unless it exists, no id is free, or a fence names its index (R164). -/
def State.makeRead (s : State) (r : Reading) (put : Reading → Phase) : State :=
  if r.ordered then s
  else
    match s.makePageOrder r.index (.pageRead r.index) false false with
    | none => s
    | some (t, _) => t.setPhase (put { r with ordered := true })

/-- Make the page order that the recovery unit waits for: a read of the hunt or the replay, or the format page. -/
def State.recoveryAdvance (s : State) : State :=
  match s.recovery.phase with
  | .hunt h => s.makeRead h.reading (fun r => .hunt { h with reading := r })
  | .replay p => s.makeRead p.reading (fun r => .replay { p with reading := r })
  | .none | .restate | .resume =>
    match s.recovery.format with
    | none => s
    | some f =>
      if f.ordered then s
      else
        match s.makePageOrder 0 (.pageWrite 0 s.formatPage) false false with
        | none => s
        | some (t, _) => t.setRecovery { t.recovery with format := some { f with ordered := true } }

/-- A freed page order id or a lifted fence is used by the one that waits for it (R119, R139). -/
def State.advance (s : State) : State := s.journalAdvance.recoveryAdvance

/-! ## Cold-start values of the map, and a new hunt -/

/-- The map, the slot pool, the planner's lists and the journal return to their cold-start values (R29, R90, R113,
R158), the sizes among them (R173). -/
def State.loseMap (s : State) : State :=
  ((((s.setMap PlacementMap.reset).setPool SlotPool.reset).setPlan Planner.reset).setOwed none).setJrn Journal.reset

/-- The sizes as they stood in another state (R201). -/
def State.keepSizes (s before : State) : State :=
  s.setMap { s.map with slotCount := before.map.slotCount, diskGrains := before.map.diskGrains }

/-- The first read of a ring page. -/
def readOf (index : Nat) : Reading := { index := index, attempts := 0, ordered := false }

/-- A hunt begins with ring index 0 (R165). -/
def State.startHunt (s : State) : State :=
  let h : Hunt :=
    { stage := .zero, low := 0, high := 0, lap := 0, fallback := false, candidate := none, largestEpoch := 0
      reading := readOf 0 }
  (s.setRecovery { s.recovery with service := .recovering, phase := .hunt h, format := none }).recoveryAdvance

/-- The ring index that an order's body names. -/
def OrderBody.index : OrderBody → Nat
  | .pageWrite i _ => i
  | .pageRead i => i
  | .platterRead _ _ _ | .platterWrite _ _ _ _ | .slotWrite _ _ | .slotRead _ _ _ => 0

/-- Every order leaves the table and every job ends; windows and page order ids with issued orders are fenced, and
the generations of issued ids rise (R139, R140). -/
def State.discardOrders (s : State) : State :=
  let fence := fun (l : Link) (o : Order) => (⟨o.id, l, o.id, s.genOf o.id⟩ : WindowFence)
  let migD := s.work.dIssued
  let migF := s.work.fIssued.filter (fun o => o.id < 8)
  let pages := s.work.fIssued.filter (fun o => ¬o.id < 8)
  let w := { s.work with
    jobs := [], completing := [], dQueue := [], pageQueue := [], migQueue := [], dIssued := [], fIssued := []
    windowFences := s.work.windowFences ++ migD.map (fence .dLink) ++ migF.map (fence .fLink)
    pageFences := s.work.pageFences ++ pages.map (fun o => (⟨o.id, s.genOf o.id, o.body.index⟩ : PageFence)) }
  (s.work.dIssued ++ s.work.fIssued).foldl (fun t o => t.bumpGen o.id) (s.setWork w)

/-! ## Applying a page (R167 to R169) -/

/-- An extent lies in one band, counts 1 to 64 grains and ends below DISK_GRAINS (R167). -/
def extentOk (diskGrains first len : Nat) : Bool :=
  decide (1 ≤ len) && decide (len ≤ 64) && decide (first / 64 = (first + len - 1) / 64) &&
    decide (first + len ≤ diskGrains)

/-- What an entry names lies within the sizes (R167). -/
def Entry.inSizes (slotCount diskGrains : Nat) : Entry → Bool
  | .extentSet b | .absorbOpen b | .ckptRecord b =>
    extentOk diskGrains b.first b.len && b.slots.all (fun n => decide (n < slotCount))
  | .extentDrop g n => extentOk diskGrains g n
  | .slotRetire n => decide (n < slotCount)
  | .ckptRetired ss => ss.all (fun n => decide (n < slotCount))
  | .absorbCommit _ | .ckptBegin _ | .ckptEnd _ => true

/-- A valid page read by the replay may be applied (R167). -/
def Replay.accepts (r : Replay) (p : Page) : Bool :=
  decide (p.psn = r.next) && decide (p.slotCount = r.candidate.slotCount) &&
    decide (p.diskGrains = r.candidate.diskGrains) &&
    p.entries.all (fun e => e.inSizes p.slotCount p.diskGrains) &&
    match r.expected with
    | none => true
    | some j => decide (p.firstJsn = j)

/-- The record an entry makes (R29). -/
def ExtentBody.record (b : ExtentBody) (id : Nat) (absorbOpen : Bool) : Rec where
  id := id
  first := b.first
  len := b.len
  state := match b.state with
    | .tracked => .tracked
    | .mirrored => .mirrored
    | .dirty => .dirty
  heat := b.heat
  epoch := b.epoch
  slots := b.slots
  dirty := b.dirty
  rewrite := 0
  openWrites := 0
  attempts := 0
  pinned := b.pinned
  absorbOpen := absorbOpen
  wbFailed := false

/-- Of two records the one that makes room first: the lower stored H, among equals the lower first grain (R169). -/
def colder (a b : Rec) : Rec :=
  if b.heat < a.heat || (b.heat = a.heat && b.first < a.first) then b else a

/-- The unpinned TRACKED record that makes room (R169). -/
def coldest (rs : List Rec) : Option Rec :=
  match rs.filter (fun r => r.state = .tracked && !r.pinned) with
  | [] => none
  | r :: more => some (more.foldl colder r)

/-- An entry that sets an extent (R168): overlapped records and holders of its slots are removed, and a record is
made, in a place made free if none is (R169). -/
def State.replaySet (s : State) (psn : Nat) (b : ExtentBody) (absorbOpen : Bool) : State :=
  let kept := s.records.filter (fun r => !r.meets b.first b.len && !r.slots.any (fun n => n ∈ b.slots))
  let s := s.setRecords kept
  match s.freeId with
  | some id => s.addRecord (b.record id absorbOpen)
  | none =>
    match coldest kept with
    | none => s.raise .iLink (.mapTruncated psn)
    | some out => (s.setRecords (kept.filter (fun r => r.id ≠ out.id))).addRecord (b.record out.id absorbOpen)

/-- The larger checkpoint number. -/
def largerCkpt (o : Option Nat) (n : Nat) : Option Nat := some (max (o.getD 0) n)

/-- One entry applied to the map being rebuilt (R168). -/
def replayEntry (psn : Nat) (x : State × Replay) : Entry → State × Replay
  | .extentSet b | .ckptRecord b => (x.1.replaySet psn b b.absorbOpen, x.2)
  | .absorbOpen b => (x.1.replaySet psn b true, x.2)
  | .absorbCommit g =>
    (x.1.setRecords (x.1.records.map (fun r => if r.first = g then { r with absorbOpen := false } else r)), x.2)
  | .extentDrop g n =>
    (x.1.setRecords (x.1.records.filter (fun r => !(decide (g ≤ r.first) && decide (r.stop ≤ g + n)))), x.2)
  | .slotRetire n => (x.1, { x.2 with retired := insertSorted n x.2.retired })
  | .ckptRetired ss => (x.1, { x.2 with retired := ss.foldl (fun acc n => insertSorted n acc) x.2.retired })
  | .ckptBegin n | .ckptEnd n => (x.1, { x.2 with largestCkpt := largerCkpt x.2.largestCkpt n })

/-- The replay after a page's entries: the JSN of the last entry applied and the first JSN of the next page. The
format page's entries take no JSN, and the page after it starts at JSN 1. A first page without entries leaves the JSN
before its first (R170). -/
def Replay.after (r : Replay) (p : Page) : Replay :=
  if p.psn = 0 then { r with lastJsn := 0, expected := some 1 }
  else
    { r with
      lastJsn :=
        if p.entries.isEmpty then (if r.expected.isNone then p.firstJsn - 1 else r.lastJsn)
        else jsnAdd p.firstJsn (p.entries.length - 1)
      expected := some (jsnAdd p.firstJsn p.entries.length) }

/-! ## End of replay (R170, R171) -/

/-- The end of a replay. `restate` says that it stopped before the head candidate or found no room for the next
page. A retired slot of a record dropped here stays retired (log 60). -/
def State.endReplay (s : State) (r : Replay) (restate : Bool) : State :=
  let opens := s.records.filter (fun x => x.absorbOpen)
  let kept := s.records.filter (fun x => !x.absorbOpen)
  let held := kept.flatMap (fun x => x.slots)
  let retired := r.retired.filter (fun n => n ∉ held)
  let cand := r.candidate
  let s := s.setMap
    { s.map with records := kept, slotCount := cand.slotCount, diskGrains := cand.diskGrains }
  let s := s.clampReserve
  let s := s.setPool
    { free := (List.range cand.slotCount).filter (fun n => n ∉ held && n ∉ retired)
      quarantine := [], retired := retired, pendingRetire := [] }
  let s := s.setHeat { s.heat with epoch := r.largestEpoch, timer := 0 }
  let dirty := (kept.filter (fun x => x.state = .dirty)).map (fun x => x.id)
  let s := s.setPlan { Planner.reset with dirtyList := dirty }
  let head := cand.psn + 1
  let page : OpenPage :=
    { firstJsn := jsnNext r.lastJsn, entries := [], used := 0, full := false, finalMade := false, passOnly := false
      unemitted := 0, linger := none }
  let s := s.setJrn
    { Journal.reset with
      lastJsn := r.lastJsn, durableJsn := r.lastJsn, head := head, tail := r.tail
      page := if head ≤ Config.top32 then some page else none
      nextCkpt := match r.largestCkpt with
        | none => 0
        | some n => (n + 1) % 2 ^ 32 }
  let s := s.setPhase (if restate then .restate else .none)
  let s := opens.foldl (fun t x => (t.offer false [.extentDrop x.first x.len]).1) s
  if restate then s else s.enterServing

/-! ## Hunt and replay, read by read (R165 to R167) -/

def Page.headerOf (p : Page) : PageHeader :=
  { psn := p.psn, tail := p.tail, slotCount := p.slotCount, diskGrains := p.diskGrains }

/-- The replay begins at the tail of the head candidate's header (R167). -/
def State.startReplay (s : State) (h : Hunt) (cand : PageHeader) : State :=
  let ring := s.recovery.ringPages
  let far := decide (cand.tail ≤ cand.psn) && decide (cand.tail + ring ≤ cand.psn)
  let tail :=
    if cand.psn < cand.tail then cand.psn
    else if far then cand.psn - ring + 1
    else cand.tail
  let s := if far then s.raise .iLink (.mapTruncated cand.tail) else s
  let r : Replay :=
    { candidate := cand, next := tail, expected := none, lastJsn := 0, largestEpoch := h.largestEpoch
      largestCkpt := none, tail := tail, retired := [], reading := readOf (tail % ring) }
  (s.setPhase (.replay r)).recoveryAdvance

/-- The hunt ends without a valid page: BLANK (R166). The sizes read 0 there (R201). -/
def State.enterBlank (s : State) : State :=
  let s := s.setMap { s.map with slotCount := 0, diskGrains := 0 }
  s.setRecovery { s.recovery with service := .blank, phase := .none, format := none }

/-- The hunt goes on halving its bounds, or ends with its head candidate. -/
def State.huntNext (s : State) (h : Hunt) : State :=
  if 1 < h.high - h.low then
    (s.setPhase (.hunt { h with stage := .halving, reading := readOf ((h.low + h.high) / 2) })).recoveryAdvance
  else
    match h.candidate with
    | none => s.enterBlank
    | some cand => s.startReplay h cand

/-- A page read by the hunt, `none` when it is invalid. -/
def State.huntStep (s : State) (h : Hunt) (page : Option Page) : State :=
  let ring := s.recovery.ringPages
  match h.stage, page with
  | .zero, some p =>
    s.huntNext
      { h with
        lap := p.psn / ring, low := 0, high := ring, candidate := some p.headerOf
        largestEpoch := max h.largestEpoch p.epoch }
  | .zero, none =>
    (s.setPhase (.hunt { h with stage := .last, fallback := true, reading := readOf (ring - 1) })).recoveryAdvance
  | .last, some p =>
    s.huntNext
      { h with
        lap := p.psn / ring + 1, low := 0, high := ring - 1, candidate := some p.headerOf
        largestEpoch := max h.largestEpoch p.epoch }
  | .last, none => s.enterBlank
  | .halving, some p =>
    let h := { h with largestEpoch := max h.largestEpoch p.epoch }
    if p.psn / ring = h.lap then s.huntNext { h with low := h.reading.index, candidate := some p.headerOf }
    else s.huntNext { h with high := h.reading.index }
  | .halving, none => s.huntNext { h with high := h.reading.index }

/-- A page read by the replay, `none` when it is invalid. -/
def State.replayStep (s : State) (r : Replay) (page : Option Page) : State :=
  let r := match page with
    | none => r
    | some p => { r with largestEpoch := max r.largestEpoch p.epoch }
  match page with
  | none => (s.raise .iLink (.mapTruncated r.next)).endReplay r true
  | some p =>
    if r.accepts p then
      let x := p.entries.foldl (replayEntry p.psn) (s, r)
      let r := x.2.after p
      if p.psn = r.candidate.psn then
        x.1.endReplay r (decide (r.tail + s.recovery.ringPages ≤ r.candidate.psn + 1))
      else
        (x.1.setPhase (.replay { r with
          next := r.next + 1, reading := readOf ((r.next + 1) % s.recovery.ringPages) })).recoveryAdvance
    else (s.raise .iLink (.mapTruncated r.next)).endReplay r true

/-- The page that the current read brought. -/
def State.pageRead (s : State) (page : Option Page) : State :=
  match s.recovery.phase with
  | .hunt h => s.huntStep h page
  | .replay r => s.replayStep r page
  | .none | .restate | .resume => s

/-- The current read. -/
def State.reading (s : State) : Option Reading :=
  match s.recovery.phase with
  | .hunt h => some h.reading
  | .replay r => some r.reading
  | .none | .restate | .resume => none

/-- Change the current read. -/
def State.setReading (s : State) (x : Reading) : State :=
  match s.recovery.phase with
  | .hunt h => s.setPhase (.hunt { h with reading := x })
  | .replay r => s.setPhase (.replay { r with reading := x })
  | .none | .restate | .resume => s

/-- The outcome of a PAGE_READ (R164). A third ABORTED makes the page invalid. -/
def State.finishRead (s : State) (o : Order) (out : FinishOutcome) (image : Option (List Byte)) : State :=
  match s.reading with
  | none => s
  | some x =>
    match out with
    | .done => s.pageRead (image.bind (validPage s.recovery.ringPages x.index))
    | .failed => s.pageRead none
    | .aborted =>
      if x.attempts + 1 < 3 then (s.setReading { x with attempts := x.attempts + 1 }).joinPage o true
      else s.pageRead none

/-! ## The format page (R172) -/

/-- The outcome of the format page's write. -/
def State.finishFormat (s : State) (o : Order) (f : FormatWrite) (out : FinishOutcome) : State :=
  match out with
  | .done =>
    let page : OpenPage :=
      { firstJsn := 1, entries := [], used := 0, full := false, finalMade := false, passOnly := false
        unemitted := 0, linger := none }
    let s := s.setJrn { Journal.reset with head := 1, tail := 0, page := some page, nextCkpt := 1 }
    let s := s.setRecovery { s.recovery with service := .serving, phase := .none, format := none }
    s.answerFormat .ok (.sizes s.map.slotCount s.map.diskGrains)
  | .failed | .aborted =>
    if f.attempts + 1 < 3 then
      (s.setRecovery { s.recovery with format := some { f with attempts := f.attempts + 1 } }).joinPage o true
    else s.loseMap.enterBlank.answerFormat .retry .empty

/-! ## Page writes of the journal (R150 to R152) -/

/-- A checkpoint pass completes when the durable JSN reaches its CKPT_END: the tail moves; a quiesce that asked for
it is told, and a map being restated is served (R155, R171, R178). In JOURNAL_FAULT the pass stands where it stopped
until the reset that abandons it, and a map being restated is not served (R157, R171; log 65). -/
def State.completePass (s : State) : State :=
  match s.jrn.pass with
  | none => s
  | some p =>
    match p.phase with
    | .ended j =>
      if s.jrn.fault.isNone && jsnLe j s.jrn.durableJsn then
        let s := s.setJrn
          { s.jrn with
            tail := p.beginPsn, pass := none
            page := s.jrn.page.map (fun x => { x with passOnly := false }) }
        let s := match s.supply.mode with
          | .quiescing .hibernate d passDone => s.setMode (.quiescing .hibernate d (passDone || p.answers))
          | .quiescing .retain _ _ | .run | .doze | .retain | .hibernate => s
        if s.recovery.phase = .restate then s.enterServing else s
      else s
    | .records _ | .retired _ => s

/-- What a rise of the durable JSN hands on (R150): quarantine exits, SYNC answers, the pass. -/
def State.handDurable (s : State) : State :=
  let s := s.setPool (s.pool.exitQuarantine s.jrn.durableJsn)
  (s.answerSyncs (fun t => if jsnLe t s.jrn.durableJsn then some (.ok, .jsn t) else none)).completePass

/-- Slots that joined the retired set since `before` lowered the high mark, and the arming of SPIN_WANTED is judged
(R106, R109; log 25). -/
def State.judgeRetired (s before : State) : State :=
  if s.pool.retired.length = before.pool.retired.length then s else s.judgeSpinWanted

/-- The open page once the images of a PSN are abandoned: a full page of that PSN is without its final image, which
the next warm start emits (R152, R159, log 45). -/
def State.pageAbandoned (s : State) (psn : Nat) : Option OpenPage :=
  s.jrn.page.map (fun p => { p with finalMade := p.finalMade && decide (s.jrn.head ≠ psn) })

/-- The first JSN of the failed page; of two failed pages, that of the lower one (R152; log 15). -/
def Journal.faultBound (j : Journal) (first : Nat) : Nat :=
  match j.fault with
  | none => first
  | some f => if jsnLe f.first first then f.first else first

/-- The journal enters JOURNAL_FAULT with a page (R152): the images of its PSN are abandoned, the durable JSN stays below
its entries, waiting SYNC requests are answered HOLD, and then a quiesce ends (R179; log 37). -/
def State.enterFault (s : State) (page : Page) : State :=
  let psn := page.psn
  let s := s.setJrn
    { s.jrn with
      fault := some { psn, first := s.jrn.faultBound page.firstJsn }
      page := s.pageAbandoned psn
      images := s.jrn.images.filter (fun i => i.page.psn ≠ psn)
      attempts := s.jrn.attempts.filter (fun a => a.psn ≠ psn) }
  let s := (s.raise .iLink (.journalFault psn)).raise .fLink (.journalFault psn)
  (s.answerSyncs (fun _ => some (.hold, .empty))).abortQuiesce .hold

/-- Failed writes of a PSN so far. -/
def Journal.attemptsOf (j : Journal) (psn : Nat) : Nat :=
  match j.attempts.find? (fun a => a.psn = psn) with
  | none => 0
  | some a => a.count

/-- The image of a PSN whose order was issued is released. -/
def State.releaseIssued (s : State) (psn : Nat) : State :=
  s.setImages (s.jrn.images.filter (fun i => !(i.page.psn = psn && !i.isHeld)))

/-- The outcome of a PAGE_WRITE of the journal (R150, R151). A DONE raises the durable JSN also in JOURNAL_FAULT, as far
as the entries before the failed page (R152), and while the journal is stalled, as it must for a stall to end (R146,
R155; log 54). A held image of the PSN receives its order, and with it the order id that the FINISH freed, before any
other held image, whatever the outcome (log 64). -/
def State.finishWrite (s : State) (o : Order) (page : Page) (out : FinishOutcome) : State :=
  let psn := page.psn
  match out with
  | .done =>
    let s := s.releaseIssued psn
    let s := s.setJrn { s.jrn.markWritten page with attempts := s.jrn.attempts.filter (fun a => a.psn ≠ psn) }
    ((s.handDurable.judgeRetired s).giveOrder psn false).advance
  | .failed | .aborted =>
    let n := s.jrn.attemptsOf psn + 1
    if n < 3 then
      let s := s.setJrn
        { s.jrn with attempts := ⟨psn, n⟩ :: s.jrn.attempts.filter (fun a => a.psn ≠ psn) }
      if s.jrn.images.any (fun i => i.page.psn = psn && i.isHeld) then
        ((s.releaseIssued psn).giveOrder psn true).advance
      else
        (s.setImages (s.jrn.images.map (fun i =>
          if i.page.psn = psn then { i with state := .waiting o.id } else i))).joinPage o true
    else (s.enterFault page).advance

end Sys2Proof.Machine
end

