-- ==== Sys2Proof/Machine/ResetOps.lean ====
section
/-! DEFINITION. Resets and the loss of the map (section 9.5, R139, R159, R173, R174), the wakes (R180, R181), and the
epoch tick (R31 to R33). -/

namespace Sys2Proof.Machine

/-! ## Cold starts -/

/-- A cold start: every block takes its cold-start values and the part enters WAITING (R161, cause 1). The pins keep
their levels, the time base goes on, and the queue and the replies sent are not the part's. -/
def State.coldStart (s : State) (cause : ResetCause) (brownOuts corrected : Nat) (rstn : Rstn) : State :=
  { State.reset with
    pending := s.pending
    sent := s.sent
    now := s.now
    supply :=
      { Supply.reset with
        cause := cause, brownOuts := brownOuts, corrected := corrected
        pfwnLow := s.supply.pfwnLow, vdd := s.supply.vdd, rstn := rstn } }

/-- The cold start that ends HIBERNATE keeps the brown-out count and the corrected-error count (R187, R189). -/
def State.endHibernate (s : State) (cause : ResetCause) (rstn : Rstn) : State :=
  s.coldStart cause s.supply.brownOuts s.supply.corrected rstn

/-- The cold start that ends a power-on or a brown-out reset, by the lowest VDD reached (R185, R187, R189). RSTn stays as
it is: one that made a cold start in HIBERNATE and is still low makes no warm start later (DESIGN CHOICE, log 66). -/
def State.endHeld (s : State) (lowest : Nat) : State :=
  if lowest < 2000 then s.coldStart .por 0 0 s.supply.rstn
  else s.coldStart .bor (min 255 (s.supply.brownOuts + 1)) 0 s.supply.rstn

/-- A frame start in RETAIN: the map memory leaves self-refresh, the mode becomes RUN, and the head check is made
(R180, R95). -/
def State.wakeRetain (s : State) : State :=
  (s.setSupply { s.supply with mode := .run, memory := .refreshed }).headCheck

/-! ## The write table and the jobs at a warm start or a map loss -/

/-- Every open write is discarded; the generations of the open handles rise by 1 (R77). -/
def State.discardWrites (s : State) : State :=
  s.setWrites
    { s.writes with
      handles := s.writes.handles.map (fun h =>
        if h.write.isSome then { gen := (h.gen + 1) % 16, write := none } else h) }

/-- The records that WRITEBACK jobs have as their subjects, in ascending job id. -/
def State.writebackRecords (s : State) : List Nat :=
  s.work.jobs.filterMap (fun j =>
    match j.kind with
    | .writeback _ => some j.record
    | .promote _ => none)

/-- Every job is rolled back in ascending job id (R139); the records of write-backs stand at the head of the dirty
list in ascending job id (R114), and the candidate list is emptied. -/
def State.rollBackJobs (s : State) : State :=
  let back := s.writebackRecords
  let t := s.work.jobs.foldl (fun t j => t.cancelJob j) s
  t.setPlan
    { t.plan with
      dirtyList := back ++ t.plan.dirtyList.filter (fun x => x ∉ back)
      candidates := [] }

/-! ## Warm start -/

/-- Put an image in its place by PSN. -/
def insertImage (i : Image) : List Image → List Image
  | [] => [i]
  | x :: xs => if i.page.psn < x.page.psn then i :: x :: xs else x :: insertImage i xs

/-- The newest image of each PSN, in ascending PSN, each without an order (R159). -/
def keptImages (is : List Image) : List Image :=
  (is.foldl (fun acc i => insertImage i (acc.filter (fun x => x.page.psn ≠ i.page.psn))) []).map
    (fun i => { i with state := .held false })

/-- The journal after a warm start in SERVING, before its page orders are made anew (R157, R159). -/
def Journal.warm (j : Journal) (now : Nat) : Journal :=
  { j with
    fault := none, attempts := [], requested := false, pass := none, pendingEmission := none
    images := keptImages j.images
    page := j.page.map (fun p =>
      { p with passOnly := false, linger := if 0 < p.unemitted then some now else none }) }

/-- What every warm start does at every block that is not the map's (table of section 9.5, R43, R194, R198, R200). -/
def State.warmCommon (s : State) (cause : ResetCause) : State :=
  let port := fun (p : Port) => { p with accepted := [], mask := 0 }
  let s := s.setPorts { i := port s.ports.i, d := port s.ports.d, f := port s.ports.f }
  let s := (s.setParams Params.default).clearOrdersReady
  let s := s.setHeat { s.heat with timer := 0, stream := [], budget := min Params.default.budgetCap s.heat.budget }
  let s := s.setSupply { s.supply with mode := .run, cause := cause, memory := .refreshed, rstn := .high }
  s.setWork { s.work with spindle := .stopped }

/-- The records with absorb-open set, which a warm start withdraws, in ascending first grain (R30). -/
def State.absorbOpens (s : State) : List Rec := s.records.filter (fun r => r.absorbOpen)

/-- RESUME ends once no withdrawal is left to place (R173). -/
def State.resumeDone (s : State) : State := if s.absorbOpens.isEmpty then s.enterServing else s

/-- A warm start in SERVING (R173): rollback, fences, discard of writes and orders, page orders made anew, RESUME. -/
def State.warmServing (s : State) : State :=
  let s := (s.rollBackJobs).discardOrders
  let s := (s.discardWrites).setRecords (s.records.map (fun r => { r with openWrites := 0 }))
  let s := s.abandonWalk
  let s := (s.setPlan { s.plan with armed := true }).setOwed none
  let s := s.setJrn (s.jrn.warm s.now)
  let s := s.setRecovery { s.recovery with service := .recovering, phase := .resume }
  s.journalAdvance.resumeDone

/-- A warm start in RECOVERING, BLANK or FORMATTING (R173): the map is lost and a new hunt begins. -/
def State.warmHunt (s : State) : State := ((s.loseMap).discardOrders).startHunt

/-- A warm start (R186): by service state; the warning is then judged against the default threshold, and the lines
against the default mask. -/
def State.warmStart (s : State) (cause : ResetCause) : State :=
  let t := s.warmCommon cause
  let t := match s.recovery.service with
    | .waiting => t
    | .serving => t.warmServing
    | .recovering | .blank | .formatting => t.warmHunt
  (t.judgeWarning).judgePorts

/-! ## Map loss -/

/-- The deferred requests are answered NOT_READY and a quiesce ends (R76, R174, R179): every SYNC first, then the POWER,
then the FORMAT (log 37). -/
def State.refuseDeferred (s : State) : State :=
  let s := s.answerSyncs (fun _ => some (.notReady, .empty))
  (s.abortQuiesce .notReady).answerFormat .notReady .empty

/-- An uncorrectable error in SERVING, RECOVERING or FORMATTING (R174, R140, R198): the map and the job state are
lost, MAP_LOST is raised with the service state left, and a new hunt begins. The map loss of SERVING keeps the sizes
(R201); in RECOVERING and FORMATTING they are lost as at a warm start (R173; log 29). -/
def State.mapLoss (s : State) : State :=
  let before := s
  let s := s.refuseDeferred
  let s := s.setMode .run
  let s := s.discardWrites.loseMap
  let s := (if before.serving then s.keepSizes before else s).discardOrders
  ((s.clearOrdersReady).raiseAll (.mapLost before.recovery.service)).startHunt

/-! ## Epoch tick -/

/-- The epoch timer counts (R31, R186). -/
def State.epochCounts (s : State) : Bool :=
  s.serving && s.supply.mode ≠ .hibernate && s.supply.heldLowest.isNone && s.supply.rstn = .high

/-- The epoch timer has reached EPOCH_SECONDS. -/
def State.epochDue (s : State) : Bool := s.epochCounts && decide (s.params.epochSeconds * 1000 ≤ s.heat.timer)

/-- The tick reaches the sweep: a walk begins, or one more waits behind the walk in progress (R101). -/
def State.beginSweep (s : State) : State :=
  match s.plan.cursor with
  | none =>
    (s.setMap { s.map with sweepNew := false }).setPlan { s.plan with cursor := some 0, rebuild := some [] }
  | some _ => s.setPlan { s.plan with tickPending := true }

/-- An epoch tick (R31, R33): C rises, the count starts again, the budget is refilled; outside RETAIN the sweep
begins and the head check is made (R95, R180). -/
def State.epochTick (s : State) : State :=
  let s := (s.setHeat { s.heat with epoch := min Config.top32 (s.heat.epoch + 1), timer := 0 }).refill
  if s.supply.mode = .retain then s else s.beginSweep.headCheck

end Sys2Proof.Machine
end

