-- ==== Sys2Proof/Machine/LinkOps.lean ====
section
/-! DEFINITION. Request links at work: the arrival of a frame (R190, R191), the taking of a request (R192, R193), and
the service-state table (R162). -/

namespace Sys2Proof.Machine

/-! ## Arrival -/

/-- A frame that a link receives is accepted, or discarded for want of credit (R190, R191). Requests that the link
checks refuse are answered as their turn comes. -/
def State.accept (s : State) (l : Link) (f : Frame) : State :=
  let port := s.port l
  if port.accepted.length < Config.linkCredits then
    (s.setPort l
      { port with accepted := port.accepted ++
          [{ frame := f, duplicate := decide (frameTag f ∈ port.tagsInUse), standing := .accepted }] }).answerRefused l
  else s.raise l (.linkOverrun f.kind (frameTag f))

/-- The links receive frames: the part is not held in reset and RSTn is high (R185, R186). -/
def State.receives (s : State) : Bool := s.supply.heldLowest.isNone && s.supply.rstn = .high

/-- What a frame start does before the frame is received: it wakes the part from RETAIN or HIBERNATE (R180, R181). -/
def State.frameStart (s : State) : State :=
  match s.supply.mode with
  | .retain => s.wakeRetain
  | .hibernate => s.endHibernate .hibernateWake s.supply.rstn
  | .run | .doze | .quiescing _ _ _ => s

/-- A frame arrives on a link. -/
def State.arrive (s : State) (l : Link) (f : Frame) : State :=
  if s.receives then s.frameStart.accept l f else s

/-! ## Taking -/

/-- What a request's block answers: a reply, a deferred reply, or none (a RESET, R186). -/
inductive Answer where
  | reply (code : ReplyCode) (body : ReplyBody)
  | defer (standing : Standing)
  | silent
  deriving DecidableEq, Repr

/-- A refusal, or an OK, without a body. -/
def Answer.plain (c : ReplyCode) : Answer := .reply c .empty

/-- OK without a body. -/
def Answer.ok : Answer := .plain .ok

/-- The answer that the service-state table gives a request it refuses (R162). -/
def serviceRefusal (v : Service) : Request → Option ReplyCode
  | .status | .getNotice | .setParam _ _ | .getParam _ => none
  | .attach _ => if v = .waiting then none else some .notPermitted
  | .format _ _ =>
    match v with
    | .waiting => some .notReady
    | .blank => none
    | .recovering | .formatting | .serving => some .notPermitted
  | .fetch | .finish _ _ _ _ | .spindle _ => if v = .waiting then some .notReady else none
  | .retire _ | .locate _ _ | .writeOpen _ _ | .writeClose _ _ _ | .discard _ _ | .pin _ _ | .unpin _ _ | .sync
  | .power _ | .reset => if v = .serving then none else some .notReady

/-- Two frames spell one request under one tag: kind, tag and body are the same (R202). -/
def sameFrame (a b : Frame) : Bool := a.kind = b.kind && frameTag a = frameTag b && a.body = b.body

/-- A request command's frame arrives, unless a request of its link still waits to be taken (log 1). -/
def State.present (s : State) (l : Link) (f : Frame) : State :=
  if (s.nextRequest l).isNone then s.arrive l f else s

/-- The request that a command takes: the next of its link, when it is the command's own. -/
def State.taking (s : State) (l : Link) (f : Frame) : Option Accepted :=
  if s.awake && s.supply.rstn = .high then (s.nextRequest l).filter (fun a => sameFrame a.frame f) else none

/-- The request is answered as its block says. -/
def State.answer (s : State) (l : Link) (a : Accepted) : Answer → State
  | .reply c b => s.answerTaken l a c b
  | .defer st => s.deferTaken l st
  | .silent => s

/-- A request that the links have handed on: refused by the service-state table, or served by its block. -/
def State.serveTaken (s : State) (l : Link) (a : Accepted) (r : Request) (serve : State → State × Answer) : State :=
  match serviceRefusal s.recovery.service r with
  | some c => s.answerTaken l a c .empty
  | none => (serve s).1.answer l a (serve s).2

/-- A request command: its frame arrives if none waits on the link, and it is taken if it is the next of its link
(log 1). A POWER whose quiesce ends as the step settles is answered after the request itself (log 37). -/
def State.request (s : State) (l : Link) (tag : Nat) (r : Request) (serve : State → State × Answer) : State :=
  let t := s.present l (requestFrame r tag)
  match t.taking l (requestFrame r tag) with
  | none => t
  | some a => (t.serveTaken l a r serve).settle

/-- The request that a command presents is taken as the command runs, and served by its block. -/
def State.servesNow (s : State) (l : Link) (tag : Nat) (r : Request) : Bool :=
  let t := s.present l (requestFrame r tag)
  (t.taking l (requestFrame r tag)).isSome && (serviceRefusal t.recovery.service r).isNone

/-- A request command whose block reads the map memory: the words that its reads correct are counted (R189; log 7). -/
def State.requestReading (s : State) (l : Link) (tag : Nat) (r : Request) (corrected : Nat)
    (serve : State → State × Answer) : State :=
  let t := s.request l tag r serve
  if s.servesNow l tag r then t.correctWords corrected else t

/-- A request that one of its block's own checks refuses: nothing changes. -/
def State.refuse (s : State) (c : ReplyCode) : State × Answer := (s, .plain c)

/-- A change with entries, offered by a request (R27): HOLD in JOURNAL_FAULT, RETRY when the journal cannot take the
entries, and the change made otherwise. -/
def State.makeChange (s : State) (c : Change) : State × ReplyCode :=
  if c.entries.isEmpty then (c.st, .ok)
  else if s.jrn.fault.isSome then (s, .hold)
  else if (c.commit false s).2 then ((c.commit false s).1, .ok)
  else ((c.commit false s).1, .retry)

end Sys2Proof.Machine
end

