-- ==== Sys2Proof/Machine/Serving.lean ====
section
/-! DEFINITION. LOCATE and WRITE_OPEN (sections 3.1 to 3.5): admission, run lists, gaps, routing, absorption, the
write table's entry. -/

namespace Sys2Proof.Machine

/-! ## Admission and run lists -/

/-- A range that admission refuses (R52). -/
def State.rangeBad (s : State) (first count : Nat) : Bool :=
  decide (count = 0) || decide (64 < count) || decide (s.map.diskGrains < first + count)

/-- The record that gives a grain its FLASH place (R55). -/
def State.flashAt (s : State) (g : Nat) : Option Rec := (s.recordAt g).filter (fun r => r.onFlash)

/-- The run of one grain, with the record a FLASH run lies in. Records whose ids are in `made` were made by
absorption in the request (R54). -/
def State.grainRun (s : State) (made : List Nat) (g : Nat) : Option Nat × Run :=
  match s.flashAt g with
  | some r =>
    (some r.id,
      { first := g, count := 1, flash := true, spinWait := false, absorbed := decide (r.id ∈ made)
        slots := [r.slots.getD (g - r.first) 0] })
  | none =>
    (none,
      { first := g, count := 1, flash := false, spinWait := decide (s.work.spindle ≠ .spinning), absorbed := false
        slots := [] })

/-- A run put before the runs of the grains after it: one run when both share a place (R54). -/
def joinRun (x : Option Nat × Run) : List (Option Nat × Run) → List (Option Nat × Run)
  | [] => [x]
  | y :: ys =>
    if x.1 = y.1 then
      (x.1, { x.2 with count := x.2.count + y.2.count, slots := x.2.slots ++ y.2.slots }) :: ys
    else x :: y :: ys

/-- The runs of `count` grains from a first grain. -/
def State.runsFrom (s : State) (made : List Nat) : Nat → Nat → List (Option Nat × Run)
  | _, 0 => []
  | g, n + 1 => joinRun (s.grainRun made g) (s.runsFrom made (g + 1) n)

/-- The run list of a range (R54). -/
def State.runList (s : State) (made : List Nat) (first count : Nat) : List Run :=
  (s.runsFrom made first count).map (fun x => x.2)

/-! ## Gaps and touches -/

/-- A new TRACKED record without heat (R7, R15). -/
def State.newTracked (s : State) (id first len : Nat) (pinned : Bool) : Rec where
  id := id
  first := first
  len := len
  state := .tracked
  heat := 0
  epoch := s.heat.epoch
  slots := []
  dirty := 0
  rewrite := 0
  openWrites := 0
  attempts := 0
  pinned := pinned
  absorbOpen := false
  wbFailed := false

/-- A record may grow: TRACKED and unpinned (R15). -/
def Rec.grows (r : Rec) : Bool := r.state = .tracked && !r.pinned

/-- Cover one gap (R15, R17). -/
def State.coverGap (s : State) (gap : Nat × Nat) : State :=
  let g := gap.1
  let n := gap.2
  match s.records.find? (fun r => r.grows && r.stop = g && bandOf r.first = bandOf g) with
  | some r => s.updateRecord r.id (fun x => { x with len := x.len + n })
  | none =>
    match s.records.find? (fun r => r.grows && r.first = g + n && bandOf r.first = bandOf g) with
    | some r => s.updateRecord r.id (fun x => { x with first := g, len := x.len + n })
    | none =>
      match s.freeId with
      | some id => s.addRecord (s.newTracked id g n false)
      | none => s.setMap { s.map with untracked := min Config.top32 (s.map.untracked + 1) }

/-- Cover the gaps of a range, in ascending grain order. -/
def State.coverGaps (s : State) (first count : Nat) : State := (s.gaps first count).foldl (fun t g => t.coverGap g) s

/-- Touch the records that meet a range, in ascending first grain, each with the weight `w` gives it (R38). -/
def State.touchRange (s : State) (first count : Nat) (w : Rec → Nat) : State :=
  (s.recordsMeeting first count).foldl (fun t r => t.touch r.id (w r)) s

/-! ## LOCATE -/

/-- LOCATE past the service-state table (R52, R55). -/
def State.serveLocate (s : State) (first count : Nat) : State × Answer :=
  if s.rangeBad first count then s.refuse .range
  else
    let streamed := s.isStreamed first count
    let s := s.streamUpdate first count
    let s :=
      if streamed then s
      else
        let s := s.coverGaps first count
        s.touchRange first count (fun r => s.locateWeight r)
    (s, .reply .ok (.runs (s.runList [] first count)))

/-- LOCATE. -/
def execLocate (tag first count corrected : Nat) (s : State) : Host.Outcome State Fault Refusal :=
  let first := carriedIn 4 first
  let count := carriedIn 1 count
  .next (s.requestReading .iLink tag (.locate first count) corrected (fun t => t.serveLocate first count))

/-! ## WRITE_OPEN: absorption (R21, R22) -/

/-- An absorbed run, with the TRACKED records it overlaps as the write finds them. -/
structure AbsorbRun where
  first : Nat
  count : Nat
  overlapped : List Rec
  deriving DecidableEq, Repr

def AbsorbRun.stop (a : AbsorbRun) : Nat := a.first + a.count

/-- A record lies wholly inside the run. -/
def AbsorbRun.whole (a : AbsorbRun) (r : Rec) : Bool := decide (a.first ≤ r.first) && decide (r.stop ≤ a.stop)

/-- The run cuts a record in the middle. -/
def AbsorbRun.cuts (a : AbsorbRun) (r : Rec) : Bool := decide (r.first < a.first) && decide (a.stop < r.stop)

/-- The absorbed runs of a range (R21). -/
def State.absorbRuns (s : State) (first count : Nat) : List AbsorbRun :=
  let held := fun g => match s.recordAt g with
    | none => true
    | some r => decide (r.state = .tracked)
  (grainRuns held first count).map (fun x =>
    { first := x.1, count := x.2, overlapped := (s.recordsMeeting x.1 x.2).filter (fun r => r.state = .tracked) })

/-- Slots that runs need (R60). -/
def slotsNeeded (rs : List AbsorbRun) : Nat := (rs.map (fun a => a.count)).sum

/-- Records made by runs: one for each run and one for each record cut in the middle. -/
def recordsMade (rs : List AbsorbRun) : Nat := rs.length + (rs.map (fun a => a.overlapped.countP a.cuts)).sum

/-- Records dropped by runs: those lying wholly inside one. -/
def recordsDropped (rs : List AbsorbRun) : Nat := (rs.map (fun a => a.overlapped.countP a.whole)).sum

/-- The place check of R21 fails. -/
def State.placesShort (s : State) (rs : List AbsorbRun) : Bool :=
  decide (s.freePlaces + recordsDropped rs < recordsMade rs)

/-- The hotter of two records; among equals the first, which has the lower first grain (R7). -/
def hotter (c : Nat) (a b : Rec) : Rec := if a.currentHeat c < b.currentHeat c then b else a

/-- The TRACKED record from which an absorbed record takes H and E (R7). -/
def AbsorbRun.source (a : AbsorbRun) (c : Nat) : Option Rec :=
  match a.overlapped with
  | [] => none
  | r :: more => some (more.foldl (hotter c) r)

/-- The whole run lies inside one pinned record (R10). -/
def AbsorbRun.insidePinned (a : AbsorbRun) : Bool :=
  a.overlapped.any (fun r => r.pinned && decide (r.first ≤ a.first) && decide (a.stop ≤ r.stop))

/-- What a run leaves of a record it overlaps at one end or cuts, under the record's id (R22, step 1). -/
def AbsorbRun.rest (a : AbsorbRun) (r : Rec) : Rec :=
  if r.first < a.first then { r with len := a.first - r.first }
  else { r with first := a.stop, len := r.stop - a.stop }

/-- The upper piece of a record cut in the middle (R22, R63). -/
def AbsorbRun.upper (a : AbsorbRun) (r : Rec) (id : Nat) : Rec :=
  { r with id := id, first := a.stop, len := r.stop - a.stop }

/-- The absorbed record of a run (R22, step 2). -/
def State.absorbed (s : State) (a : AbsorbRun) (id : Nat) : Rec where
  id := id
  first := a.first
  len := a.count
  state := .dirty
  heat := ((a.source s.heat.epoch).map (fun r => r.heat)).getD 0
  epoch := ((a.source s.heat.epoch).map (fun r => r.epoch)).getD s.heat.epoch
  slots := s.pool.free.take a.count
  dirty := maskRange 0 a.count
  rewrite := 0
  openWrites := 0
  attempts := 0
  pinned := a.insidePinned
  absorbOpen := true
  wbFailed := false

/-- Every open write that lists a record lists the upper piece cut from it as well (R63). -/
def State.copyListings (s : State) (id upper : Nat) : State :=
  s.setWrites
    { s.writes with
      handles := s.writes.handles.map (fun h =>
        { h with write := h.write.map (fun w =>
          { w with listings :=
              if w.listings.any (fun x => x.record = id) then w.listings ++ [⟨upper, false⟩] else w.listings }) }) }

/-- A run drops a record it covers whole, unless it is gone already, and shrinks or cuts any other it overlaps (R22,
step 1; log 22). -/
def State.yieldOne (a : AbsorbRun) (gone : Bool) (s : State) (r : Rec) : State :=
  if a.whole r then (if gone then s else s.dropRecord r.id) else s.updateRecord r.id (fun _ => a.rest r)

/-- The records that a run overlaps yield to it. -/
def State.yield (s : State) (a : AbsorbRun) (gone : Bool) : State := a.overlapped.foldl (State.yieldOne a gone) s

/-- The upper piece of a record cut in the middle is made, and its EXTENT_SET placed if it is pinned (R22, R63). -/
def Change.makeUpper (a : AbsorbRun) (c : Change) (r : Rec) : Change :=
  match c.st.freeId with
  | none => c
  | some id =>
    let up := a.upper r id
    let c := c.on (fun s => (s.addRecord up).copyListings r.id id)
    if r.pinned then c.place (.extentSet up.entryBody) else c

/-- What follows the absorbed record for a record it overlaps: the EXTENT_SET of a pinned piece left, and the upper
piece (R22, steps 1 and 3). -/
def Change.leaveRest (a : AbsorbRun) (c : Change) (r : Rec) : Change :=
  if a.whole r then c
  else
    let c := if r.pinned then c.place (.extentSet (a.rest r).entryBody) else c
    if a.cuts r then c.makeUpper a r else c

/-- A run applied (R22): the overlapped records, the absorbed record, the upper piece, and the entries. -/
def Change.absorb (gone : Bool) (c : Change) (a : AbsorbRun) : Change :=
  let c := c.on (fun s => s.yield a gone)
  match c.st.freeId with
  | none => c
  | some id =>
    let made := c.st.absorbed a id
    let c := c.on (fun s => (s.addRecord made).setPool { s.pool with free := s.pool.free.drop a.count })
    let c := c.place (.absorbOpen made.entryBody)
    a.overlapped.foldl (Change.leaveRest a) c

/-! ## WRITE_OPEN: dirty marks (R20) -/

/-- A record that a write routes grains into, with the grains marked. -/
def Rec.marked (r : Rec) (m : Mask) : Rec :=
  match r.state with
  | .mirrored | .dirty => { r with state := .dirty, dirty := r.dirty ||| m }
  | .writingBack => { r with dirty := r.dirty ||| m, rewrite := r.rewrite ||| m }
  | .tracked | .promoting => r

/-- Mark the grains of a range dirty in a record that holds slots. -/
def Change.mark (first count : Nat) (c : Change) (r : Rec) : Change :=
  let r' := r.marked (r.partMask first count)
  let c := c.on (fun s => s.updateRecord r.id (fun _ => r'))
  let c := if r.state = .mirrored then c.on (fun s => s.dirtyTail r.id) else c
  if r'.dirty = r.dirty then c else c.place (.extentSet r'.entryBody)

/-! ## WRITE_OPEN: the write as one change -/

/-- A part of a write's routing that changes the map with entries: a record with slots, or an absorbed run. -/
inductive WriteUnit where
  | flash (r : Rec)
  | absorb (a : AbsorbRun)
  deriving DecidableEq, Repr

def WriteUnit.first : WriteUnit → Nat
  | .flash r => r.first
  | .absorb a => a.first

/-- Put a unit in its place by first grain. -/
def insertUnit (u : WriteUnit) : List WriteUnit → List WriteUnit
  | [] => [u]
  | x :: xs => if u.first < x.first then u :: x :: xs else x :: insertUnit u xs

/-- The units of a write, in ascending first grain (R61). -/
def State.writeUnits (s : State) (first count : Nat) (runs : List AbsorbRun) : List WriteUnit :=
  runs.foldl (fun us a => insertUnit (.absorb a) us)
    (((s.recordsMeeting first count).filter (fun r => r.onFlash)).map .flash)

/-- One unit of a write applied. -/
def Change.route (first count : Nat) (gone : Bool) (c : Change) : WriteUnit → Change
  | .flash r => c.mark first count r
  | .absorb a => c.absorb gone a

/-- Run by run, in ascending grain order, every record made finds a free place, out of `free` places (R22). -/
def runsFit : Nat → List AbsorbRun → Bool
  | _, [] => true
  | free, a :: rest =>
    decide (recordsMade [a] ≤ free + recordsDropped [a]) && runsFit (free + recordsDropped [a] - recordsMade [a]) rest

/-- The records that runs cover whole are dropped before the first run is applied (log 22). -/
def State.dropWhole (s : State) (runs : List AbsorbRun) : State :=
  (runs.flatMap (fun a => a.overlapped.filter a.whole)).foldl (fun t r => t.dropRecord r.id) s

/-- The routing of a write with its entries (R58, R61). -/
def State.routeChange (s : State) (first count : Nat) (runs : List AbsorbRun) : Change :=
  let gone := !runsFit s.freePlaces runs
  (s.writeUnits first count runs).foldl (Change.route first count gone)
    (Change.start (if gone then s.dropWhole runs else s))

/-- Jobs on PROMOTING records that a range meets, in ascending first grain. -/
def State.promotionsMet (s : State) (first count : Nat) : List Job :=
  ((s.recordsMeeting first count).filter (fun r => r.state = .promoting)).filterMap (fun r => s.jobOn r.id)

/-- The cancel flag set on jobs (R57, R133). -/
def State.flagJobs (s : State) (js : List Job) : State :=
  js.foldl (fun t j => t.updateJob j.id (fun x => { x with cancel := true })) s

/-- Jobs cancelled, in the order given (R133, R134). -/
def State.cancelJobs (s : State) (js : List Job) : State := js.foldl (fun t j => t.cancelJob j) s

/-! ## WRITE_OPEN: the write table (R62) -/

/-- Handles in the order of the search: upward from the search point, wrapping. -/
def WriteTable.order (w : WriteTable) : List Nat :=
  (List.range Config.handles).map (fun i => (w.search + 1 + i) % Config.handles)

/-- The handle of a number. -/
def WriteTable.get (w : WriteTable) (h : Nat) : Handle := w.handles.getD h { gen := 0, write := none }

/-- The free handle that a write takes. -/
def WriteTable.freeHandle (w : WriteTable) : Option Nat := w.order.find? (fun h => (w.get h).write.isNone)

/-- Grains of a range that are routed to flash (R49). -/
def State.flashGrains (s : State) (first count : Nat) : Nat :=
  (((s.recordsMeeting first count).filter (fun r => r.onFlash)).map (fun r => (r.part first count).2)).sum

/-- The commit JSN of a write that opens: of its last entry, else the last JSN assigned if it routes a grain to
flash, else 0 (R62). -/
def commitAtOpen (c : Change) (flashGrains : Nat) : Nat :=
  if c.entries.isEmpty then (if 0 < flashGrains then c.st.jrn.lastJsn else 0) else c.jsn

/-- The write takes a handle: listings of the records it routes through, their open-write counts raised (R8, R62). -/
def State.enterWrite (s : State) (h first count jsn : Nat) (made : List Nat) : State :=
  let met := (s.recordsMeeting first count).map (fun r => r.id)
  let w : OpenWrite :=
    { first := first, count := count, opened := s.now
      listings := met.map (fun id => ⟨id, decide (id ∈ made)⟩), commitJsn := jsn, held := false }
  let s := s.setRecords (s.records.map (fun r =>
    if r.id ∈ met then { r with openWrites := r.openWrites + 1 } else r))
  s.setWrites
    { handles := s.writes.handles.set h { s.writes.get h with write := some w }, search := h }

/-- The write after its routing has been made: gaps, stream table, touches, debit, table entry, reply (R56). -/
def State.finishOpen (s : State) (first count jsn : Nat) (made : List Nat) (h : Nat) : State × Answer :=
  let streamed := s.isStreamed first count
  let s := if s.work.spindle = .spinning && !streamed then s.coverGaps first count else s
  let s := s.streamUpdate first count
  let s := if streamed then s else s.touchRange first count (fun _ => s.params.wWrite)
  let s := s.debit (s.flashGrains first count)
  let gen := (s.writes.get h).gen
  let s := s.enterWrite h first count jsn made
  (s, .reply .ok (.opened h gen (s.runList made first count)))

/-- SPIN_NEEDED with its reason; SPIN_WANTED is raised on the D-link (R60). -/
def State.spinNeeded (s : State) (r : SpinReason) : State × Answer :=
  (s.raise .dLink (.spinWanted r), .reply .spinNeeded (.reason r))

/-- WRITE_OPEN past its first three checks (R56, checks 4 to 7). -/
def State.openRouted (s : State) (first count h : Nat) : State × Answer :=
  let t := s.cancelJobs (s.promotionsMet first count)
  let runs := if t.work.spindle = .spinning then [] else t.absorbRuns first count
  if t.pool.free.length < slotsNeeded runs then s.spinNeeded .noSlots
  else if t.placesShort runs then s.spinNeeded .noRecords
  else
    let c := t.routeChange first count runs
    let made :=
      (c.st.records.filter (fun r => r.absorbOpen && runs.any (fun a => a.first = r.first))).map (fun r => r.id)
    let x := s.makeChange c
    match x.2 with
    | .ok => x.1.finishOpen first count (commitAtOpen c (c.st.flashGrains first count)) made h
    | code => x.1.refuse code

/-- WRITE_OPEN past the service-state table (R52, R56). -/
def State.serveWriteOpen (s : State) (first count : Nat) : State × Answer :=
  if s.rangeBad first count then s.refuse .range
  else if s.supply.warning then s.refuse .hold
  else
    match s.writes.freeHandle with
    | none => s.refuse .full
    | some h =>
      let out := (s.promotionsMet first count).filter (fun j => s.jobIssued j)
      if out.isEmpty then s.openRouted first count h else (s.flagJobs out).refuse .retry

/-- WRITE_OPEN. -/
def execWriteOpen (tag first count corrected : Nat) (s : State) : Host.Outcome State Fault Refusal :=
  let first := carriedIn 4 first
  let count := carriedIn 1 count
  .next (s.requestReading .iLink tag (.writeOpen first count) corrected (fun t => t.serveWriteOpen first count))

end Sys2Proof.Machine
end

