-- ==== Sys2Proof/Machine/Closing.lean ====
section
/-! DEFINITION. WRITE_CLOSE, the write timeout and its held close (R64 to R68). -/

namespace Sys2Proof.Machine

/-- The open write of a handle. -/
def State.openWrite (s : State) (h : Nat) : Option OpenWrite := (s.writes.get h).write

/-- The created-here records of a write that are live, in ascending first grain. -/
def State.createdBy (s : State) (w : OpenWrite) : List Rec :=
  s.records.filter (fun r => w.listings.any (fun x => x.record = r.id && x.createdHere))

/-- The entries and changes of step 2 of a close: commits for OK, withdrawals for FAILED, each with its
SLOT_RETIRE entries behind it (R65, R66, R83; log 19). -/
def State.closeChange (s : State) (w : OpenWrite) (ok : Bool) : Change :=
  (s.createdBy w).foldl (fun c r => if ok then c.commitAbsorption r else c.drop r) (Change.start s)

/-- ABSORB_COMMIT and EXTENT_DROP entries, which set the commit JSN of a close. -/
def Entry.closes : Entry → Bool
  | .absorbCommit _ | .extentDrop _ _ => true
  | .extentSet _ | .absorbOpen _ | .slotRetire _ | .ckptBegin _ | .ckptRecord _ | .ckptRetired _ | .ckptEnd _ => false

/-- Entries of a list up to and including the last for which `p` holds. -/
def countThrough (p : Entry → Bool) (es : List Entry) : Nat := (es.reverse.dropWhile (fun e => !p e)).length

/-- The commit JSN of a close: of the last ABSORB_COMMIT or EXTENT_DROP placed, else as the open left it. -/
def closeJsn (w : OpenWrite) (last : Nat) (es : List Entry) : Nat :=
  if es.any Entry.closes then jsnAdd last (countThrough Entry.closes es) else w.commitJsn

/-- The open-write counts of the listed records fall by 1 (R65, step 1). -/
def State.lowerCounts (s : State) (w : OpenWrite) : State :=
  s.setRecords (s.records.map (fun r =>
    if w.listings.any (fun x => x.record = r.id) then { r with openWrites := r.openWrites - 1 } else r))

/-- The retirement release of a listed record, attempted in step 1: left waiting where it would keep out the entries
of step 2 (log 18). -/
def State.releaseAtClose (w : OpenWrite) (ok : Bool) (s : State) (id : Nat) : State :=
  if (s.createdBy w).isEmpty then s.attemptRelease id
  else if s.releaseReady id then
    let t := s.attemptRelease id
    if t.canTake false (t.closeChange w ok).entries then t else s
  else s

/-- The handle is freed and its generation rises by 1 (R65, step 4). -/
def State.freeHandle (s : State) (h : Nat) : State :=
  s.setWrites
    { s.writes with handles := s.writes.handles.set h { gen := ((s.writes.get h).gen + 1) % 16, write := none } }

/-- A close whose entries can be taken: the state it leaves and its commit JSN (R65, R66). Retirement releases are
attempted in the order of the listings (log 53). -/
def State.closeWrite (s : State) (h : Nat) (w : OpenWrite) (ok : Bool) : State × Nat :=
  let s := s.lowerCounts w
  let s := (w.listings.map (fun x => x.record)).foldl (State.releaseAtClose w ok) s
  let c := s.closeChange w ok
  let jsn := closeJsn w s.jrn.lastJsn c.entries
  ((c.commit false s).1.freeHandle h, jsn)

/-- WRITE_CLOSE past the service-state table (R64). -/
def State.serveWriteClose (s : State) (h gen outcome : Nat) : State × Answer :=
  if 31 < h ∨ 15 < gen ∨ 1 < outcome then s.refuse .range
  else
    match s.openWrite h with
    | none => s.refuse .stale
    | some w =>
      if (s.writes.get h).gen ≠ gen then s.refuse .stale
      else
        let ok := decide (outcome = 0)
        let es := (s.closeChange w ok).entries
        if !es.isEmpty && s.jrn.fault.isSome then s.refuse .hold
        else if s.canTake false es then
          let x := s.closeWrite h w ok
          (x.1, .reply .ok (.jsn x.2))
        else (s.offer false es).1.refuse .retry

/-- WRITE_CLOSE. -/
def execWriteClose (tag handle gen outcome : Nat) (s : State) (corrected : Nat := 0) :
    Host.Outcome State Fault Refusal :=
  let handle := carriedIn 1 handle
  let gen := carriedIn 1 gen
  let outcome := carriedIn 1 outcome
  .next (s.requestReading .iLink tag (.writeClose handle gen outcome)
    corrected (fun t => t.serveWriteClose handle gen outcome))

/-! ## The write timeout (R67) -/

/-- The open write of a handle has reached WRITE_TIMEOUT. -/
def State.timeoutDue (s : State) (h : Nat) : Bool :=
  match s.openWrite h with
  | none => false
  | some w => !w.held && decide (w.opened + s.params.writeTimeout ≤ s.now)

/-- A timeout closes its write as a close OK would, and raises WRITE_ORPHAN. -/
def State.orphan (s : State) (h : Nat) (w : OpenWrite) : State :=
  let gen := (s.writes.get h).gen
  (s.closeWrite h w true).1.raise .iLink (.writeOrphan h gen w.first w.count)

/-- The timeout is held: the write stays open past it. -/
def State.holdTimeout (s : State) (h : Nat) (w : OpenWrite) : State :=
  s.setWrites
    { s.writes with handles := s.writes.handles.set h { s.writes.get h with write := some { w with held := true } } }

/-- The timeout of a handle's write: closed, or held while the journal cannot take its entries. -/
def State.timeOut (s : State) (h : Nat) : State :=
  match s.openWrite h with
  | none => s
  | some w =>
    let es := (s.closeChange w true).entries
    if s.canTake false es then s.orphan h w else (s.offer false es).1.holdTimeout h w

/-- WRITE_TIMEOUT. -/
def execWriteTimeout (handle : Nat) (s : State) (corrected : Nat := 0) : Host.Outcome State Fault Refusal :=
  .next (if s.awake && s.timeoutDue handle then ((s.timeOut handle).settle).correctWords corrected else s)

/-- A held timeout whose entries the journal can take: it closes its write though WRITE_TIMEOUT has since been raised
above the age of the write (R67, R68; log 57). -/
def State.heldCloseReady (s : State) (h : Nat) : Bool :=
  match s.openWrite h with
  | none => false
  | some w => w.held && s.canTake false (s.closeChange w true).entries

/-- The close of a held timeout. -/
def State.heldClose (s : State) (h : Nat) : State :=
  match s.openWrite h with
  | none => s
  | some w => s.orphan h w

/-- HELD_TIMEOUT_CLOSE. Without room for its entries it changes nothing (log 35). -/
def execHeldTimeoutClose (handle : Nat) (s : State) (corrected : Nat := 0) : Host.Outcome State Fault Refusal :=
  .next (if s.awake && s.heldCloseReady handle then ((s.heldClose handle).settle).correctWords corrected else s)

end Sys2Proof.Machine
end

