-- ==== Sys2Proof/Machine/MapRequests.lean ====
section
/-! DEFINITION. DISCARD, PIN, UNPIN and SYNC (sections 3.7 to 3.9). -/

namespace Sys2Proof.Machine

/-! ## DISCARD (R25, R69, R70) -/

/-- The jobs on the records that a range meets, in ascending first grain. -/
def State.jobsMet (s : State) (first count : Nat) : List Job :=
  (s.recordsMeeting first count).filterMap (fun r => s.jobOn r.id)

def Job.isPromote (j : Job) : Bool :=
  match j.kind with
  | .promote _ => true
  | .writeback _ => false

/-- A DIRTY record with an empty dirty mask is MIRRORED (R5). -/
def Rec.clean (r : Rec) : Rec := if r.state = .dirty && r.dirty = 0 then { r with state := .mirrored } else r

/-- A record that a DISCARD meets has write-back-failed cleared and its attempts at 0 (R70). -/
def Rec.forgiven (r : Rec) : Rec := { r with attempts := 0, wbFailed := false }

/-- What a DISCARD of a range leaves of a record whose prefix, suffix or middle it covers (R25). -/
def Rec.discarded (r : Rec) (first count : Nat) : Rec :=
  let lo := (r.part first count).1
  let n := (r.part first count).2
  Rec.clean <| Rec.forgiven <|
    if lo = r.first then
      { r with
        first := r.first + n, len := r.len - n, slots := r.slots.drop n
        dirty := r.dirty >>> n, rewrite := r.rewrite >>> n }
    else if lo + n = r.stop then
      { r with
        len := r.len - n, slots := r.slots.take (r.len - n)
        dirty := r.dirty &&& maskRange 0 (r.len - n), rewrite := r.rewrite &&& maskRange 0 (r.len - n) }
    else { r with dirty := maskMinus r.dirty (r.partMask first count) }

/-- The slots that a DISCARD takes from a record it shrinks. -/
def Rec.slotsGiven (r : Rec) (first count : Nat) : List Nat :=
  let lo := (r.part first count).1
  let n := (r.part first count).2
  if lo = r.first then r.slots.take n else if lo + n = r.stop then r.slots.drop (r.len - n) else []

/-- Whether a DISCARD covers a record whole, or leaves it another extent. -/
def Rec.wholeIn (r : Rec) (first count : Nat) : Bool := decide (first ≤ r.first) && decide (r.stop ≤ first + count)

/-- The dirty list after a DISCARD of a part of a record: it leaves when MIRRORED, and joins when its failed
write-back is forgiven (R97). -/
def State.dirtyAfter (s : State) (old new : Rec) : State :=
  if new.state = .dirty then (if old.wbFailed then s.dirtyTail new.id else s) else s.dirtyLeave new.id

/-- One record of a DISCARD (R25): the entries, the slots to the quarantine keyed by the last of them, the SLOT_RETIRE
entries of pending slots (R86; log 19). -/
def Change.discard (first count : Nat) (c : Change) (id : Nat) : Change :=
  match c.st.recordOf id with
  | none => c
  | some r =>
    if r.wholeIn first count then c.drop r
    else
      let new := r.discarded first count
      let given := r.slotsGiven first count
      let c :=
        if new.len ≠ r.len then (c.place (.extentDrop r.first r.len)).place (.extentSet new.entryBody)
        else if new.dirty ≠ r.dirty then c.place (.extentSet new.entryBody)
        else c
      let retirees := c.st.pool.pendingAmong given
      let c := c.on (fun s =>
        ((s.updateRecord r.id (fun _ => new)).setPool (s.pool.enterQuarantine given c.jsn)).dirtyAfter r new)
      retirees.foldl (fun c n => c.place (.slotRetire n)) c

/-- DISCARD past the service-state table. The retirement releases of records left MIRRORED follow, each a change of its
own, in ascending first grain (log 50). -/
def State.serveDiscard (s : State) (first count : Nat) : State × Answer :=
  if s.rangeBad first count then s.refuse .range
  else if s.supply.warning then s.refuse .hold
  else if (s.recordsMeeting first count).any (fun r => decide (0 < r.openWrites)) then s.refuse .retry
  else
    let out := (s.jobsMet first count).filter (fun j => s.jobIssued j)
    if !out.isEmpty then (s.flagJobs (out.filter Job.isPromote)).refuse .retry
    else
      let ids := (s.recordsMeeting first count).map (fun r => r.id)
      let c := ids.foldl (Change.discard first count) (Change.start (s.cancelJobs (s.jobsMet first count)))
      let x := s.makeChange c
      match x.2 with
      | .ok => (ids.foldl State.attemptRelease x.1, .ok)
      | code => x.1.refuse code

/-- DISCARD. -/
def execDiscard (tag first count : Nat) (s : State) (corrected : Nat := 0) : Host.Outcome State Fault Refusal :=
  let first := carriedIn 4 first
  let count := carriedIn 1 count
  .next (s.requestReading .iLink tag (.discard first count) corrected (fun t => t.serveDiscard first count))

/-! ## PIN (R16, R71 to R73) -/

/-- The unpinned records a range meets. -/
def State.unpinnedMet (s : State) (first count : Nat) : List Rec :=
  (s.recordsMeeting first count).filter (fun r => !r.pinned)

/-- Grains that a PIN would add (R72). -/
def State.pinAdds (s : State) (first count : Nat) : Nat :=
  ((s.unpinnedMet first count).map (fun r => r.len)).sum + ((s.gaps first count).map (fun g => g.2)).sum

/-- Make the pinned record of a gap (R2, R16). -/
def State.pinGap (s : State) (gap : Nat × Nat) : State :=
  match s.freeId with
  | none => s
  | some id => s.addRecord (s.newTracked id gap.1 gap.2 true)

/-- Make the pinned records of gaps, in ascending first grain. -/
def State.makePinned (s : State) (gs : List (Nat × Nat)) : State := gs.foldl State.pinGap s

/-- The change of a PIN (R73): pinned flags, new records, and an EXTENT_SET for each, in ascending first grain. -/
def State.pinChange (s : State) (first count : Nat) : Change :=
  let old := (s.unpinnedMet first count).map (fun r => r.id)
  let had := (s.recordsMeeting first count).map (fun r => r.id)
  let t := s.setRecords (s.records.map (fun r => if r.id ∈ old then { r with pinned := true } else r))
  let t := t.makePinned (s.gaps first count)
  let changed := (t.recordsMeeting first count).filter (fun r : Rec => old.contains r.id || !had.contains r.id)
  { st := t, entries := changed.map (fun r => Entry.extentSet r.entryBody) }

/-- PIN past the service-state table. The TRACKED records pinned are offered in ascending first grain (log 51). -/
def State.servePin (s : State) (first count : Nat) : State × Answer :=
  if s.rangeBad first count then s.refuse .range
  else if s.supply.warning then s.refuse .hold
  else if s.freePlaces < (s.gaps first count).length then s.refuse .full
  else if 0 < s.pinAdds first count ∧ s.pinLimit < s.pinnedGrains + s.pinAdds first count then s.refuse .limit
  else
    let old := ((s.recordsMeeting first count).filter (fun r => r.pinned)).map (fun r => r.id)
    let x := s.makeChange (s.pinChange first count)
    match x.2 with
    | .ok =>
      let ids := (x.1.recordsMeeting first count).map (fun r => r.id)
      ((ids.filter (fun id => id ∉ old)).foldl State.offerCandidate x.1, .ok)
    | code => x.1.refuse code

/-- PIN. -/
def execPin (tag first count : Nat) (s : State) (corrected : Nat := 0) : Host.Outcome State Fault Refusal :=
  let first := carriedIn 4 first
  let count := carriedIn 1 count
  .next (s.requestReading .iLink tag (.pin first count) corrected (fun t => t.servePin first count))

/-! ## UNPIN (R74) -/

/-- The pinned records a range meets. -/
def State.pinnedMet (s : State) (first count : Nat) : List Rec :=
  (s.recordsMeeting first count).filter (fun r => r.pinned)

/-- The change of an UNPIN. -/
def State.unpinChange (s : State) (first count : Nat) : Change :=
  let ids := (s.pinnedMet first count).map (fun r => r.id)
  { st := s.setRecords (s.records.map (fun r => if r.id ∈ ids then { r with pinned := false } else r))
    entries := (s.pinnedMet first count).map (fun r => Entry.extentSet ({ r with pinned := false } : Rec).entryBody) }

/-- What follows for a record unpinned: a candidate is offered again, a retiring MIRRORED record has its release
attempted. -/
def State.afterUnpin (s : State) (id : Nat) : State :=
  (if s.isCandidate id then s.offerCandidate id else s).attemptRelease id

/-- UNPIN past the service-state table. What follows for each record is made in ascending first grain, after all the
entries (log 52). -/
def State.serveUnpin (s : State) (first count : Nat) : State × Answer :=
  if s.rangeBad first count then s.refuse .range
  else if s.supply.warning then s.refuse .hold
  else
    let x := s.makeChange (s.unpinChange first count)
    match x.2 with
    | .ok => (((s.pinnedMet first count).map (fun r => r.id)).foldl State.afterUnpin x.1, .ok)
    | code => x.1.refuse code

/-- UNPIN. -/
def execUnpin (tag first count : Nat) (s : State) (corrected : Nat := 0) : Host.Outcome State Fault Refusal :=
  let first := carriedIn 4 first
  let count := carriedIn 1 count
  .next (s.requestReading .iLink tag (.unpin first count) corrected (fun t => t.serveUnpin first count))

/-! ## SYNC (R75, R76) -/

/-- SYNC past the service-state table. -/
def State.serveSync (s : State) : State × Answer :=
  let target := s.jrn.lastJsn
  if jsnLe target s.jrn.durableJsn then (s, .reply .ok (.jsn target))
  else if s.jrn.fault.isSome then s.refuse .hold
  else (s.emit false, .defer (.syncWaits target))

/-- SYNC. -/
def execSync (tag : Nat) (s : State) (corrected : Nat := 0) : Host.Outcome State Fault Refusal :=
  .next (s.requestReading .iLink tag .sync corrected State.serveSync)

end Sys2Proof.Machine
end

