-- ==== Sys2Proof/Machine/Retirement.lean ====
section
/-! DEFINITION. RETIRE (R83 to R86) and the retirement release that waited for the journal (R146). -/

namespace Sys2Proof.Machine

/-- A slot that is retired, or on its way to the retired set (R84, check 3). -/
def State.slotLeaving (s : State) (n : Nat) : Bool :=
  s.pool.retired.contains n || s.pool.pendingRetire.any (fun x => x.slot = n) ||
    s.pool.quarantine.any (fun q => q.slot = n && q.retire)

/-- The PROMOTE job whose reservation holds a slot. -/
def State.reservedBy (s : State) (n : Nat) : Option Job :=
  s.work.jobs.find? (fun j =>
    match j.kind with
    | .promote reservation => reservation.contains n
    | .writeback _ => false)

/-- The record whose slot list holds a slot. -/
def State.heldBy (s : State) (n : Nat) : Option Rec := s.records.find? (fun r => r.slots.contains n)

/-- A slot joins the pending-retirement list. -/
def State.pend (s : State) (n : Nat) (h : Holder) : State :=
  s.setPool { s.pool with pendingRetire := insertPending { slot := n, holder := h } s.pool.pendingRetire }

/-- The change of a RETIRE of a slot in a record's list, by the record's state (R85). -/
def State.retireHeld (s : State) (n : Nat) (r : Rec) : Change :=
  let pended := (Change.start s).on (fun t => t.pend n (.record r.id))
  match r.state with
  | .mirrored => if !r.pinned && r.openWrites = 0 then pended.release r else pended
  | .dirty => if r.wbFailed && decide (3 ≤ r.attempts) then pended else pended.on (fun t => t.dirtyHead r.id)
  | .tracked | .promoting | .writingBack => pended

/-- The change of a RETIRE of a slot in a reservation: its job is cancelled, or flagged while its order is issued
(R85, R133). -/
def State.retireReserved (s : State) (n : Nat) (j : Job) : Change :=
  ((Change.start s).on (fun t =>
    let t := t.pend n (.job j.id)
    if s.jobIssued j then t.flagJobs [j] else t.cancelJob j)).place (.slotRetire n)

/-- The change of a RETIRE, by the holder of the slot (R85); `none` when no place holds it (log 39). -/
def State.retireChange (s : State) (n : Nat) : Option Change :=
  if s.pool.free.contains n then
    some (((Change.start s).on (fun t =>
      t.setPool { t.pool with
        free := t.pool.free.filter (fun x => x ≠ n), retired := insertSorted n t.pool.retired })).place (.slotRetire n))
  else if s.pool.quarantine.any (fun q => q.slot = n) then
    some (((Change.start s).on (fun t =>
      t.setPool { t.pool with
        quarantine := t.pool.quarantine.map (fun q => if q.slot = n then { q with retire := true } else q)
        })).place (.slotRetire n))
  else
    match s.reservedBy n with
    | some j => some (s.retireReserved n j)
    | none => (s.heldBy n).map (fun r => s.retireHeld n r)

/-- The entry is the SLOT_RETIRE of a slot. -/
def Entry.retires (n : Nat) : Entry → Bool
  | .slotRetire m => decide (m = n)
  | .extentSet _ | .absorbOpen _ | .absorbCommit _ | .extentDrop _ _ | .ckptBegin _ | .ckptRecord _ | .ckptRetired _
  | .ckptEnd _ => false

/-- The JSN that a RETIRE reports: of its SLOT_RETIRE, or 0 (R84). -/
def retireJsn (n last : Nat) (es : List Entry) : Nat :=
  if es.any (Entry.retires n) then jsnAdd last (countThrough (Entry.retires n) es) else 0

/-- RETIRE past the service-state table (R84, R85). An ALREADY carries JSN 0 (log 55). -/
def State.serveRetire (s : State) (n : Nat) : State × Answer :=
  if s.map.slotCount ≤ n then s.refuse .range
  else if s.slotLeaving n then (s, .reply .ok (.retired .already 0))
  else if s.supply.warning then s.refuse .hold
  else
    match s.retireChange n with
    | none => (s, .reply .ok (.retired .already 0))
    | some c =>
      let x := s.makeChange c
      match x.2 with
      | .ok =>
        let d : Disposition := if x.1.pool.retired.contains n then .retired else .pending
        (x.1, .reply .ok (.retired d (retireJsn n s.jrn.lastJsn c.entries)))
      | code => x.1.refuse code

/-- RETIRE. -/
def execRetire (tag slot : Nat) (s : State) (corrected : Nat := 0) : Host.Outcome State Fault Refusal :=
  let slot := carriedIn 4 slot
  .next (s.requestReading .fLink tag (.retire slot) corrected (fun t => t.serveRetire slot))

/-- WAITING_RETIREMENT_RELEASE: the release of a record that waited, judged again as an event of its own (R12,
R146). -/
def execWaitingRetirementRelease (record : Nat) (s : State) (corrected : Nat := 0) : Host.Outcome State Fault Refusal :=
  .next (if s.works && s.releaseDue record then ((s.attemptRelease record).settle).correctWords corrected else s)

end Sys2Proof.Machine
end

