-- ==== Sys2Proof/Machine/ChannelOrders.lean ====
section
/-! DEFINITION. SPINDLE, FETCH and FINISH (sections 6.4 to 6.7), and the completion of a job that waits in COMPLETING
(R118). -/

namespace Sys2Proof.Machine

/-! ## SPINDLE (R136) -/

/-- A change of the spindle state to SPINNING raises ORDERS_READY if the D-link queue holds an order (R125), and every
change has the arming of SPIN_WANTED judged (R109). -/
def State.recordSpindle (s : State) (v : Spindle) : State :=
  let changed := decide (s.work.spindle ≠ v)
  let s := s.setWork { s.work with spindle := v }
  let s :=
    if changed && v = .spinning && !s.work.dQueue.isEmpty then s.raise .dLink (.ordersReady s.work.dQueue.length)
    else s
  if changed then s.judgeSpinWanted else s

/-- SPINDLE past the service-state table. -/
def State.serveSpindle (s : State) (code : Nat) : State × Answer :=
  match Spindle.ofCode code with
  | none => s.refuse .range
  | some v => (s.recordSpindle v, .ok)

/-- SPINDLE. -/
def execSpindle (tag code : Nat) (s : State) (corrected : Nat := 0) : Host.Outcome State Fault Refusal :=
  let code := carriedIn 1 code
  .next (s.requestReading .dLink tag (.spindle code) corrected (fun t => t.serveSpindle code))

/-! ## FETCH (R122 to R124) -/

/-- The order enters the issued set, and the reply carries it with its generation. -/
def State.hand (s : State) (l : Link) (o : Order) : State × Answer :=
  (s.setIssued l (s.issued l ++ [o]), .reply .ok (.order o.id (s.genOf o.id) o.body))

/-- A FETCH on the D-link (R123). -/
def State.fetchD (s : State) : State × Answer :=
  if s.work.spindle ≠ .spinning ∨ s.params.issueDepthD ≤ s.work.dIssued.length then (s, .ok)
  else
    match s.work.dQueue with
    | [] => (s, .ok)
    | o :: rest => (s.setWork { s.work with dQueue := rest }).hand .dLink o

/-- A FETCH on the F-link (R124). -/
def State.fetchF (s : State) : State × Answer :=
  if s.params.issueDepthF ≤ s.work.fIssued.length then (s, .ok)
  else
    match s.work.pageQueue, s.work.migQueue with
    | o :: rest, _ =>
      let s := s.setImages (s.jrn.images.map (fun i =>
        if i.state = .waiting o.id then { i with state := .issued o.id } else i))
      (s.setWork { s.work with pageQueue := rest }).hand .fLink o
    | [], o :: rest => (s.setWork { s.work with migQueue := rest }).hand .fLink o
    | [], [] => (s, .ok)

/-- FETCH past the service-state table. -/
def State.serveFetch (s : State) : Link → State × Answer
  | .dLink => s.fetchD
  | .fLink => s.fetchF
  | .iLink => s.refuse .notPermitted

/-- FETCH. -/
def execFetch (link : Link) (tag : Nat) (s : State) (corrected : Nat := 0) : Host.Outcome State Fault Refusal :=
  .next (s.requestReading link tag .fetch corrected (fun t => t.serveFetch link))

/-! ## FINISH: migration orders (R128 to R132) -/

/-- The stage 2 order of a job is made and queued (R116, R117). -/
def State.startStageTwo (s : State) (j : Job) : State :=
  let s := s.updateJob j.id (fun x => { x with stage := .two, attempts := 0 })
  match j.kind with
  | .promote reservation => s.joinMig { id := j.id, body := .slotWrite j.id reservation }
  | .writeback snapshot => s.joinD { id := j.id, body := .platterWrite j.id j.first j.len snapshot }

/-- DONE (R128): the next stage, or completion, or COMPLETING. -/
def State.stageDone (s : State) (j : Job) : State :=
  match j.stage with
  | .one => if s.withdrawing then s.cancelJob j else s.startStageTwo j
  | .two | .completing =>
    let x := s.tryComplete j
    if x.2 then x.1 else x.1.enterCompleting j.id

/-- An order finished ABORTED re-enters its queue at the head (R121, R129). -/
def State.requeue (s : State) (l : Link) (o : Order) : State :=
  match l with
  | .dLink => s.setWork { s.work with dQueue := o :: s.work.dQueue }
  | .fLink => s.setWork { s.work with migQueue := o :: s.work.migQueue }
  | .iLink => s

/-- ABORTED (R129). -/
def State.stageAborted (s : State) (l : Link) (o : Order) (j : Job) : State :=
  if 3 ≤ j.attempts + 1 then s.failJob j
  else if s.withdrawing then s.cancelJob j
  else (s.updateJob j.id (fun x => { x with attempts := j.attempts + 1 })).requeue l o

/-- The outcome of a migration order, handed to its job (R127 to R132). -/
def State.finishJob (s : State) (l : Link) (o : Order) (out : FinishOutcome) : State :=
  match s.jobOf o.id with
  | none => s
  | some j =>
    if j.cancel then s.cancelJob j
    else
      match out with
      | .done => s.stageDone j
      | .failed => s.failJob j
      | .aborted => s.stageAborted l o j

/-! ## FINISH: the checks (R126) and the owner (R127) -/

/-- A fence that a FINISH on a link with an id and a generation lifts (R89, R139). -/
def State.fenceMet (s : State) (l : Link) (id gen : Nat) : Bool :=
  s.work.windowFences.any (fun w => w.link = l && w.order = id && w.gen = gen) ||
    (decide (l = .fLink) && s.work.pageFences.any (fun p => p.order = id && p.gen = gen))

/-- The fence is lifted: its window, or its page order id and ring index, serve again. -/
def State.liftFence (s : State) (l : Link) (id gen : Nat) : State :=
  (s.setWork
    { s.work with
      windowFences := s.work.windowFences.filter (fun w => !(w.link = l && w.order = id && w.gen = gen))
      pageFences := s.work.pageFences.filter (fun p => !(l = .fLink && p.order = id && p.gen = gen)) }).advance

/-- The order with an id and a current generation in a link's issued set. -/
def State.issuedOrder (s : State) (l : Link) (id gen : Nat) : Option Order :=
  (s.issued l).find? (fun o => o.id = id && s.genOf o.id = gen)

/-- A page image is carried exactly when a PAGE_READ is finished DONE (R126, check 5). -/
def imageFits (b : OrderBody) (out : FinishOutcome) (image : Option (List Byte)) : Bool :=
  match b with
  | .pageRead _ => image.isSome = decide (out = .done)
  | .platterRead _ _ _ | .platterWrite _ _ _ _ | .slotWrite _ _ | .slotRead _ _ _ | .pageWrite _ _ => image.isNone

/-- The outcome handed to the order's owner: its job, the map journal or FORMAT, the recovery unit (R127). -/
def State.finishOrder (s : State) (l : Link) (o : Order) (out : FinishOutcome) (image : Option (List Byte)) : State :=
  let s := (s.setIssued l ((s.issued l).filter (fun x => x.id ≠ o.id))).bumpGen o.id
  match o.body with
  | .platterRead _ _ _ | .platterWrite _ _ _ _ | .slotWrite _ _ | .slotRead _ _ _ => s.finishJob l o out
  | .pageWrite _ page =>
    match s.recovery.format with
    | some f => (s.finishFormat o f out).advance
    | none => (s.finishWrite o page out).advance
  | .pageRead _ => (s.finishRead o out image).advance

/-- FINISH past the service-state table (R126). -/
def State.serveFinish (s : State) (l : Link) (id gen outcome : Nat) (image : Option (List Byte)) : State × Answer :=
  match FinishOutcome.ofCode outcome with
  | none => s.refuse .range
  | some out =>
    if 31 < id ∨ 15 < gen then s.refuse .range
    else if s.fenceMet l id gen then (s.liftFence l id gen, .plain .stale)
    else
      match s.issuedOrder l id gen with
      | none => s.refuse .stale
      | some o => if imageFits o.body out image then (s.finishOrder l o out image, .ok) else s.refuse .range

/-- FINISH. -/
def execFinish (link : Link) (tag order gen outcome : Nat) (image : Option (List Byte)) (s : State)
    (corrected : Nat := 0) : Host.Outcome State Fault Refusal :=
  let order := carriedIn 1 order
  let gen := carriedIn 1 gen
  let outcome := carriedIn 1 outcome
  let image := carriedImage image
  .next (s.requestReading link tag (.finish order gen outcome image)
    corrected (fun t => t.serveFinish link order gen outcome image))

/-! ## COMPLETING (R118) -/

/-- The job that has waited longest in COMPLETING. -/
def State.completingHead (s : State) : Option Job := s.work.completing.head?.bind s.jobOf

/-- COMPLETING_JOB_COMPLETION. -/
def execCompletingJobCompletion (s : State) (corrected : Nat := 0) : Host.Outcome State Fault Refusal :=
  .next (
    match s.completingHead with
    | none => s
    | some j => if s.awake then ((s.tryComplete j).1.settle).correctWords corrected else s)

end Sys2Proof.Machine
end

