-- ==== Sys2Proof/Machine/RecoveryCommands.lean ====
section
/-! DEFINITION. ATTACH, FORMAT, the withdrawals of RESUME, and the uncorrectable map memory error (chapter 8, R189). -/

namespace Sys2Proof.Machine

/-- ATTACH past the service-state table (R163). -/
def State.serveAttach (s : State) (pages : Nat) : State × Answer :=
  if pages < 2048 ∨ 65536 < pages then s.refuse .range
  else ((s.setRecovery { s.recovery with ringPages := pages }).startHunt, .ok)

/-- ATTACH. -/
def execAttach (tag pages : Nat) (s : State) (corrected : Nat := 0) : Host.Outcome State Fault Refusal :=
  let pages := carriedIn 4 pages
  .next (s.requestReading .fLink tag (.attach pages) corrected (fun t => t.serveAttach pages))

/-- A value clamped to a range. -/
def clamp (lo hi v : Nat) : Nat := max lo (min hi v)

/-- FORMAT taken in BLANK (R172): sizes, slot pool, epoch and map are set, and the format page is made. -/
def State.beginFormat (s : State) (slots grains : Nat) : State :=
  let n := clamp 1024 1048576 slots
  let s := s.setMap
    { PlacementMap.reset with
      untracked := s.map.untracked, slotCount := n, diskGrains := clamp 65536 268435456 grains }
  let s := s.setPool { SlotPool.reset with free := List.range n }
  let s := s.setHeat { s.heat with epoch := 0, timer := 0 }
  let s := s.clampReserve
  (s.setRecovery
    { s.recovery with service := .formatting, phase := .none, format := some ⟨0, false⟩ }).recoveryAdvance

/-- FORMAT past the service-state table: HOLD while the warning is active (R184). -/
def State.serveFormat (s : State) (slots grains : Nat) : State × Answer :=
  if s.supply.warning then s.refuse .hold else (s.beginFormat slots grains, .defer .formatWaits)

/-- FORMAT. -/
def execFormat (tag slots grains : Nat) (s : State) (corrected : Nat := 0) : Host.Outcome State Fault Refusal :=
  let slots := carriedIn 4 slots
  let grains := carriedIn 4 grains
  .next (s.requestReading .fLink tag (.format slots grains) corrected (fun t => t.serveFormat slots grains))

/-- The part is in RESUME. -/
def State.resuming (s : State) : Bool := s.awake && s.recovery.phase = .resume

/-- The next withdrawal of a warm start, offered to the journal (R159, R173). -/
def State.withdrawNext (s : State) : State :=
  match s.absorbOpens with
  | [] => s.resumeDone
  | r :: _ =>
    let x := ((Change.start s).drop r).commit false s
    if x.2 then x.1.judgeSpinWanted.resumeDone else x.1

/-- WITHDRAWAL. -/
def execWithdrawal (s : State) (corrected : Nat := 0) : Host.Outcome State Fault Refusal :=
  .next (if s.resuming then (s.withdrawNext.settle).correctWords corrected else s)

/-- An uncorrectable error is a loss for the part: it works, and its map memory holds state in use (R189, log 30). -/
def State.losesMap (s : State) : Bool :=
  s.awake &&
    match s.recovery.service with
    | .serving | .recovering | .formatting => true
    | .waiting | .blank => false

/-- MAP_LOSS: words corrected by the read that found the error count as corrected (R189). -/
def execMapLoss (corrected : Nat) (s : State) : Host.Outcome State Fault Refusal :=
  .next (
    let t := if s.awake then s.correctWords corrected else s
    if t.losesMap then t.mapLoss.settle else t)

end Sys2Proof.Machine
end

