-- ==== Sys2Proof/Machine/ParamOps.lean ====
section
/-! DEFINITION. The table of parameters (section 10.4) and the effects of a change (R32, R50, R68, R87, R95, R106,
R147, R182). -/

namespace Sys2Proof.Machine

/-- The owning link; every link owns its own NOTICE_MASK. -/
def Param.owner : Param → Option Link
  | .tPromote | .hysteresis | .wFlashRead | .wPlatterRead | .wWakeRead | .wWrite | .epochSeconds | .streamMin
  | .pinPercent | .writeTimeout | .dirtyHigh | .dirtyLow | .journalLinger | .warnLevel => some .iLink
  | .issueDepthD => some .dLink
  | .issueDepthF | .budgetRate | .budgetCap | .reserveSlots => some .fLink
  | .noticeMask => none

/-- Lowest and highest value; NOTICE_MASK is cut to the kinds the link carries instead. -/
def Param.range : Param → Nat × Nat
  | .tPromote => (1, 4193216)
  | .hysteresis => (0, 65535)
  | .wFlashRead | .wPlatterRead | .wWakeRead | .wWrite => (0, 255)
  | .epochSeconds => (1, 600)
  | .streamMin => (8, 4096)
  | .pinPercent => (0, 75)
  | .writeTimeout => (100, 60000)
  | .dirtyHigh => (10, 95)
  | .dirtyLow => (5, 90)
  | .journalLinger => (10, 1000)
  | .warnLevel => (0, 3)
  | .issueDepthD | .issueDepthF => (1, 4)
  | .budgetRate => (0, 65535)
  | .budgetCap => (0, 1048576)
  | .reserveSlots => (0, 65536)
  | .noticeMask => (0, 65535)

/-- The stored value of a parameter, as a link reads it (R200). -/
def State.paramValue (s : State) (l : Link) : Param → Nat
  | .tPromote => s.params.tPromote
  | .hysteresis => s.params.hysteresis
  | .wFlashRead => s.params.wFlashRead
  | .wPlatterRead => s.params.wPlatterRead
  | .wWakeRead => s.params.wWakeRead
  | .wWrite => s.params.wWrite
  | .epochSeconds => s.params.epochSeconds
  | .streamMin => s.params.streamMin
  | .pinPercent => s.params.pinPercent
  | .writeTimeout => s.params.writeTimeout
  | .dirtyHigh => s.params.dirtyHigh
  | .dirtyLow => s.params.dirtyLow
  | .journalLinger => s.params.journalLinger
  | .warnLevel => s.params.warnLevel
  | .issueDepthD => s.params.issueDepthD
  | .issueDepthF => s.params.issueDepthF
  | .budgetRate => s.params.budgetRate
  | .budgetCap => s.params.budgetCap
  | .reserveSlots => s.params.reserveSlots
  | .noticeMask => (s.port l).mask.toNat

/-- The value that a SET_PARAM stores (R199, with R87 and R106). -/
def State.storedValue (s : State) (l : Link) (p : Param) (v : Nat) : Nat :=
  let x := clamp p.range.1 p.range.2 v
  match p with
  | .dirtyLow => min x (s.params.dirtyHigh - 5)
  | .reserveSlots => if s.slotCountKnown then min x (s.map.slotCount / 4) else x
  | .noticeMask => (BitVec.ofNat 16 v &&& carried l).toNat
  | .tPromote | .hysteresis | .wFlashRead | .wPlatterRead | .wWakeRead | .wWrite | .epochSeconds | .streamMin
  | .pinPercent | .writeTimeout | .dirtyHigh | .journalLinger | .warnLevel | .issueDepthD | .issueDepthF | .budgetRate
  | .budgetCap => x

/-- The value stored. -/
def State.store (s : State) (l : Link) (p : Param) (v : Nat) : State :=
  match p with
  | .tPromote => s.setParams { s.params with tPromote := v }
  | .hysteresis => s.setParams { s.params with hysteresis := v }
  | .wFlashRead => s.setParams { s.params with wFlashRead := v }
  | .wPlatterRead => s.setParams { s.params with wPlatterRead := v }
  | .wWakeRead => s.setParams { s.params with wWakeRead := v }
  | .wWrite => s.setParams { s.params with wWrite := v }
  | .epochSeconds => s.setParams { s.params with epochSeconds := v }
  | .streamMin => s.setParams { s.params with streamMin := v }
  | .pinPercent => s.setParams { s.params with pinPercent := v }
  | .writeTimeout => s.setParams { s.params with writeTimeout := v }
  | .dirtyHigh => s.setParams { s.params with dirtyHigh := v }
  | .dirtyLow => s.setParams { s.params with dirtyLow := v }
  | .journalLinger => s.setParams { s.params with journalLinger := v }
  | .warnLevel => s.setParams { s.params with warnLevel := v }
  | .issueDepthD => s.setParams { s.params with issueDepthD := v }
  | .issueDepthF => s.setParams { s.params with issueDepthF := v }
  | .budgetRate => s.setParams { s.params with budgetRate := v }
  | .budgetCap => s.setParams { s.params with budgetCap := v }
  | .reserveSlots => s.setParams { s.params with reserveSlots := v }
  | .noticeMask => s.setPort l { s.port l with mask := BitVec.ofNat 16 v }

/-! ## Timers that a change may bring to their ends -/

/-- The linger timer has reached JOURNAL_LINGER (R147). -/
def State.lingerDue (s : State) : Bool :=
  match s.jrn.page with
  | none => false
  | some p =>
    match p.linger with
    | none => false
    | some t => decide (t + s.params.journalLinger ≤ s.now)

/-- The linger timer expires: it stops, and the open page is emitted (R147). -/
def State.lingerExpire (s : State) : State :=
  (s.setJrn { s.jrn with page := s.jrn.page.map (fun p => { p with linger := none }) }).emit false

/-- The write of a handle times out, if it is due. -/
def State.timeOutDue (s : State) (h : Nat) : State := if s.timeoutDue h then s.timeOut h else s

/-- Every open write older than WRITE_TIMEOUT times out, each on its own, in ascending handle (R68, log 23). -/
def State.timeOutAll (s : State) : State :=
  (List.range Config.handles).foldl State.timeOutDue s

/-- The effects that a stored change makes as it is taken (R199). -/
def State.paramEffect (s : State) (l : Link) : Param → State
  | .tPromote => s.headCheck
  | .epochSeconds => if s.epochDue then s.epochTick else s
  | .writeTimeout => s.timeOutAll
  | .dirtyHigh =>
    (s.setParams { s.params with dirtyLow := min s.params.dirtyLow (s.params.dirtyHigh - 5) }).judgeSpinWanted
  | .journalLinger => if s.lingerDue then s.lingerExpire else s
  | .warnLevel => s.judgeWarning
  | .budgetCap => s.setHeat { s.heat with budget := min s.heat.budget s.params.budgetCap }
  | .noticeMask => s.judgePort l
  | .hysteresis | .wFlashRead | .wPlatterRead | .wWakeRead | .wWrite | .streamMin | .pinPercent | .dirtyLow
  | .issueDepthD | .issueDepthF | .budgetRate | .reserveSlots => s

/-- The link may set a parameter: it owns it, or the parameter is its own mask (R199). -/
def Param.ownedBy (p : Param) (l : Link) : Bool := p = .noticeMask || p.owner = some l

end Sys2Proof.Machine
end

