-- ==== Sys2Proof/Machine/LinkRequests.lean ====
section
/-! DEFINITION. FRAME_ARRIVAL, SET_PARAM, GET_PARAM, STATUS and GET_NOTICE (chapter 10). -/

namespace Sys2Proof.Machine

/-- FRAME_ARRIVAL (R190, R191): the header is read, and its frame arrives. -/
def execFrameArrival (link : Link) (bytes : List Byte) (s : State) : Host.Outcome State Fault Refusal :=
  .next (
    match Frame.read bytes with
    | none => s
    | some f => s.arrive link f)

/-- SET_PARAM past the service-state table (R199). -/
def State.serveSetParam (s : State) (l : Link) (code value : Nat) : State × Answer :=
  match Param.ofCode code with
  | none => s.refuse .unknown
  | some p =>
    if p.ownedBy l then
      let v := s.storedValue l p value
      ((s.store l p v).paramEffect l p, .reply .ok (.value v))
    else s.refuse .notPermitted

/-- SET_PARAM. -/
def execSetParam (link : Link) (tag param value : Nat) (s : State) (corrected : Nat := 0) :
    Host.Outcome State Fault Refusal :=
  let param := carriedIn 1 param
  let value := carriedIn 4 value
  .next (s.requestReading link tag (.setParam param value) corrected (fun t => t.serveSetParam link param value))

/-- GET_PARAM past the service-state table (R200). -/
def State.serveGetParam (s : State) (l : Link) (code : Nat) : State × Answer :=
  match Param.ofCode code with
  | none => s.refuse .unknown
  | some p => (s, .reply .ok (.value (s.paramValue l p)))

/-- GET_PARAM. -/
def execGetParam (link : Link) (tag param : Nat) (s : State) : Host.Outcome State Fault Refusal :=
  let param := carriedIn 1 param
  .next (s.request link tag (.getParam param) (fun t => t.serveGetParam link param))

/-- The STATUS snapshot of a state (R201). -/
def State.snapshot (s : State) : Snapshot where
  service := s.recovery.service
  mode := s.supply.mode
  warning := s.supply.warning
  journalFault := s.jrn.fault.isSome
  spindle := s.work.spindle
  tracked := s.countState .tracked
  promoting := s.countState .promoting
  mirrored := s.countState .mirrored
  dirty := s.countState .dirty
  writingBack := s.countState .writingBack
  free := s.pool.free.length
  quarantined := s.pool.quarantine.length
  retired := s.pool.retired.length
  dirtyGrains := s.dirtyGrains
  pinnedGrains := s.pinnedGrains
  budget := s.heat.budget
  epoch := s.heat.epoch
  head := s.jrn.head
  tail := s.jrn.tail
  lastJsn := s.jrn.lastJsn
  durableJsn := s.jrn.durableJsn
  jobs := s.work.jobs.length
  issuedD := s.work.dIssued.length
  issuedF := s.work.fIssued.length
  openWrites := s.openWrites
  untracked := s.map.untracked
  corrected := s.supply.corrected
  cause := s.supply.cause
  brownOuts := s.supply.brownOuts
  slotCount := s.map.slotCount
  diskGrains := s.map.diskGrains
  ringPages := s.recovery.ringPages

/-- STATUS past the service-state table (R201). -/
def State.serveStatus (s : State) : State × Answer := (s, .reply .ok (.snapshot s.snapshot))

/-- STATUS: the snapshot is of the moment it is taken, and words that its reads correct count afterwards (log 7). -/
def execStatus (link : Link) (tag corrected : Nat) (s : State) : Host.Outcome State Fault Refusal :=
  .next (s.requestReading link tag .status corrected State.serveStatus)

/-- GET_NOTICE past the service-state table (R197). -/
def State.serveGetNotice (s : State) (l : Link) : State × Answer :=
  let p := s.port l
  match p.notices.find? p.unmasked with
  | none => (s, .reply .ok (.notice none p.pendingFlags))
  | some n =>
    let t := (s.setPort l { p with notices := p.notices.filter (fun m => m.code ≠ n.code) }).judgePort l
    (t, .reply .ok (.notice (some n) (t.port l).pendingFlags))

/-- GET_NOTICE. -/
def execGetNotice (link : Link) (tag : Nat) (s : State) : Host.Outcome State Fault Refusal :=
  .next (s.request link tag .getNotice (fun t => t.serveGetNotice link))

end Sys2Proof.Machine
end

