-- ==== Sys2Proof/Machine/PlannerCommands.lean ====
section
/-! DEFINITION. The planner's own work (chapter 5): promotion starts, releases of victims, write-back starts, sweep
visits; and the epoch tick that drives the sweep. -/

namespace Sys2Proof.Machine

/-! ## Shared conditions -/

/-- One window is FREE and both starts want it (R110). -/
def State.contended (s : State) : Bool :=
  decide (s.freeWindows.length = 1) && s.promotionHolds && s.writebackHolds

/-- The one window goes to the write-back (R110): to the start that is owed, if one is (log 58), else by the dirty
grains. -/
def State.writebackFirst (s : State) : Bool :=
  match s.owed with
  | some .writeback => true
  | some .promotion => false
  | none => decide (s.highMark ≤ s.dirtyGrains)

/-- A start was taken in `before`: where two or more windows were FREE there and the other start held, that one is
owed its window (R110). -/
def State.oweOther (s before : State) (other : Start) : State :=
  s.setOwed (if 2 ≤ before.freeWindows.length ∧ before.startHolds other = true then some other else none)

/-! ## Promotion start (R98, R99) -/

/-- A promotion start is taken. -/
def State.promotionReady (s : State) : Bool := s.promotionHolds && !(s.contended && s.writebackFirst)

/-- A PROMOTE job starts on a record in a window (R99). -/
def State.startPromotion (s : State) (r : Rec) (window : Nat) : State :=
  let job : Job :=
    { id := window, kind := .promote (s.pool.free.take r.len), record := r.id, first := r.first, len := r.len
      stage := .one, cancel := false, attempts := 0 }
  let s := s.setPool { s.pool with free := s.pool.free.drop r.len }
  let s := s.debit r.len
  let s := (s.updateRecord r.id (fun x => { x with state := .promoting })).removeCandidate r.id
  let s := s.setWork { s.work with jobs := insertJob job s.work.jobs }
  s.joinD { id := window, body := .platterRead window r.first r.len }

/-- The promotion of the head, in the lowest FREE window. -/
def State.promoteHead (s : State) : State :=
  match s.headRecord, s.freeWindows with
  | some r, w :: _ => s.startPromotion r w
  | some _, [] => s
  | none, _ => s

/-- PROMOTION_START. -/
def execPromotionStart (s : State) (corrected : Nat := 0) : Host.Outcome State Fault Refusal :=
  .next (if s.promotionReady then ((s.promoteHead.oweOther s .writeback).settle).correctWords corrected else s)

/-! ## Release of a victim (R103 to R105) -/

/-- A victim list entry whose record is no longer fit (R104). -/
def State.unfit (s : State) (v : Victim) : Bool :=
  match s.recordOf v.record with
  | none => true
  | some r => r.state ≠ .mirrored || r.pinned || s.isRetiring r.id

/-- The victim test of a record against a candidate (R42). -/
def State.victimPasses (s : State) (cand r : Rec) : Bool :=
  let d := cand.density s.heat.epoch
  r.state = .mirrored && !r.pinned && r.openWrites = 0 && !s.isRetiring r.id && decide (s.params.hysteresis < d) &&
    decide (r.density s.heat.epoch < d - s.params.hysteresis)

/-- Of two records the one of lower current density; among equals the first. -/
def lessDense (c : Nat) (a b : Rec) : Rec := if b.density c < a.density c then b else a

/-- The victim that a release selects for a candidate (R104). -/
def State.victimFor (s : State) (cand : Rec) : Option Rec :=
  match (s.plan.victims.filterMap (fun v => s.recordOf v.record)).filter (s.victimPasses cand) with
  | [] => none
  | r :: more => some (more.foldl (lessDense s.heat.epoch) r)

/-- Slots in the quarantine that will join the free pool. -/
def State.returningSlots (s : State) : Nat := s.pool.quarantine.countP (fun q => !q.retire)

/-- The conditions of R103 hold for the head. -/
def State.releaseWanted (s : State) (r : Rec) : Bool :=
  s.headWanted r &&
    decide (s.pool.free.length + s.returningSlots < r.len + s.params.reserveSlots) &&
    s.canTake false [.extentSet r.entryBody]

/-- The departures of unfit entries (R104). -/
def State.dropUnfit (s : State) : State :=
  s.setPlan { s.plan with victims := s.plan.victims.filter (fun v => !s.unfit v) }

/-- One release for a head: the departures, then the release of the victim selected, if one passes (R104, R105). -/
def State.releaseFor (s : State) (cand : Rec) : State :=
  let s := s.dropUnfit
  match s.victimFor cand with
  | none => s
  | some r => (((Change.start s).release r).commit false s).1.removeVictim r.id

/-- A release has its conditions, and would change something. -/
def State.victimReady (s : State) : Bool :=
  match s.headRecord with
  | none => false
  | some r => s.releaseWanted r && (s.plan.victims.any s.unfit || (s.victimFor r).isSome)

/-- VICTIM_RELEASE. -/
def execVictimRelease (s : State) (corrected : Nat := 0) : Host.Outcome State Fault Refusal :=
  .next (
    match s.headRecord with
    | none => s
    | some r => if s.releaseWanted r then ((s.releaseFor r).settle).correctWords corrected else s)

/-! ## Write-back start (R107, R108) -/

/-- A write-back start is taken. -/
def State.writebackReady (s : State) : Bool := s.writebackHolds && !(s.contended && !s.writebackFirst)

/-- A WRITEBACK job starts on a record in a window (R108). -/
def State.startWriteback (s : State) (r : Rec) (window : Nat) : State :=
  let job : Job :=
    { id := window, kind := .writeback r.dirty, record := r.id, first := r.first, len := r.len
      stage := .one, cancel := false, attempts := 0 }
  let s := (s.updateRecord r.id (fun x => { x with state := .writingBack, rewrite := 0 })).dirtyLeave r.id
  let s := s.setWork { s.work with jobs := insertJob job s.work.jobs }
  s.joinMig { id := window, body := .slotRead window r.dirty r.slots }

/-- The write-back of the record chosen, in the lowest FREE window. -/
def State.writeBackChosen (s : State) : State :=
  match s.writebackChoice, s.freeWindows with
  | some r, w :: _ => s.startWriteback r w
  | some _, [] => s
  | none, _ => s

/-- WRITEBACK_START. -/
def execWritebackStart (s : State) (corrected : Nat := 0) : Host.Outcome State Fault Refusal :=
  .next (if s.writebackReady then ((s.writeBackChosen.oweOther s .promotion).settle).correctWords corrected else s)

/-! ## The sweep (R100 to R102) -/

/-- The record is cold enough to be forgotten (R102, checks 4 and 5). -/
def State.forgets (s : State) (r : Rec) : Bool :=
  r.openWrites = 0 &&
    (decide (r.currentHeat s.heat.epoch = 0) ||
      (decide (r.density s.heat.epoch < s.params.tPromote / 4) &&
        decide (Config.occupancyThreshold ≤ s.records.length)))

/-- The visit of a TRACKED record (R102, checks 1 to 5). -/
def State.visitTracked (s : State) (r : Rec) : State :=
  if s.isCandidate r.id || r.pinned then s.offerCandidate r.id
  else
    let t := if s.params.tPromote ≤ r.density s.heat.epoch then s.offerCandidate r.id else s
    if s.forgets r then t.dropRecord r.id else t

/-- The offer to the victim list under rebuild (R102, check 6). -/
def State.visitMirrored (s : State) (r : Rec) : State :=
  if !r.pinned && !s.isRetiring r.id && r.openWrites = 0 then
    s.setPlan
      { s.plan with rebuild := s.plan.rebuild.map (offerVictim ⟨r.id, r.density s.heat.epoch⟩) }
  else s

/-- The return of a DIRTY record after a failed write-back (R102, check 8; R9). -/
def State.visitFailed (s : State) (id : Nat) : State :=
  match s.recordOf id with
  | none => s
  | some r =>
    if r.state = .dirty && r.wbFailed && decide (r.attempts < 3) then
      (s.updateRecord id (fun x => { x with wbFailed := false })).dirtyTail id
    else s

/-- The visit of a record id (R102); a free place does nothing. -/
def State.visit (s : State) (id : Nat) : State :=
  match s.recordOf id with
  | none => s
  | some r =>
    match r.state with
    | .tracked => s.visitTracked r
    | .mirrored => (s.visitMirrored r).attemptRelease id
    | .dirty => s.visitFailed id
    | .promoting | .writingBack => s

/-- The end of a walk (R100), and the walk that a pending tick begins. -/
def State.endWalk (s : State) : State :=
  let again := s.plan.tickPending
  let s := s.setPlan
    { s.plan with victims := s.plan.rebuild.getD [], rebuild := none, cursor := none, tickPending := false }
  if again then s.beginSweep else s

/-- The cursor after a visit. -/
def State.afterVisit (s : State) (id : Nat) : State :=
  let s := s.setMap { s.map with sweepNew := false }
  if id + 1 < Config.recordPlaces then s.setPlan { s.plan with cursor := some (id + 1) } else s.endWalk

/-- The walk's visit of the place at its cursor: a record made there since the cursor came is not visited (R101). -/
def State.sweepAt (s : State) (id : Nat) : State := (if s.map.sweepNew then s else s.visit id).afterVisit id

/-- SWEEP_VISIT. -/
def execSweepVisit (s : State) (corrected : Nat := 0) : Host.Outcome State Fault Refusal :=
  .next (
    match s.plan.cursor with
    | none => s
    | some id => if s.works then ((s.sweepAt id).settle).correctWords corrected else s)

/-! ## The epoch tick -/

/-- EPOCH_TICK (R31, R33). In RETAIN it reads no map memory (R180, R188). -/
def execEpochTick (s : State) (corrected : Nat := 0) : Host.Outcome State Fault Refusal :=
  .next (
    if s.epochDue then
      let t := s.epochTick.settle
      if s.awake then t.correctWords corrected else t
    else s)

end Sys2Proof.Machine
end

