-- ==== Sys2Proof/Machine/Checkpoint.lean ====
section
/-! DEFINITION. The linger timer's expiry (R147) and the checkpoint pass (R153 to R156). -/

namespace Sys2Proof.Machine

/-- LINGER_EXPIRY. -/
def execLingerExpiry (s : State) (corrected : Nat := 0) : Host.Outcome State Fault Refusal :=
  .next (if s.awake && s.lingerDue then (s.lingerExpire.settle).correctWords corrected else s)

/-! ## Beginning -/

/-- The quiesce in progress has HIBERNATE as its target. -/
def State.quiescesToHibernate (s : State) : Bool :=
  match s.supply.mode with
  | .quiescing .hibernate _ _ => true
  | .quiescing .retain _ _ | .run | .doze | .retain | .hibernate => false

/-- A pass is wanted: half the ring is used, one was asked for, or the map is restated (R153, R171). -/
def State.passWanted (s : State) : Bool :=
  decide (s.recovery.ringPages / 2 ≤ s.jrn.head - s.jrn.tail) || s.jrn.requested || s.recovery.phase = .restate

/-- The start of a pass has its conditions (R153). -/
def State.passDue (s : State) : Bool :=
  s.awake && s.jrn.page.isSome && s.jrn.pass.isNone && s.jrn.fault.isNone && s.passWanted

/-- The pass is in progress, its CKPT_BEGIN in the page now open. -/
def State.passBegun (s : State) : State :=
  (s.setMap { s.map with passNew := false }).setJrn
    { s.jrn with
      pass := some
        { number := s.jrn.nextCkpt, beginPsn := s.jrn.head, phase := .records 0, answers := s.quiescesToHibernate }
      nextCkpt := (s.jrn.nextCkpt + 1) % 2 ^ 32
      requested := false }

/-- CKPT_BEGIN offered as a pass's own entry. -/
def State.beginPass (s : State) : State :=
  let x := s.offer true [.ckptBegin s.jrn.nextCkpt]
  if x.2 then x.1.passBegun else x.1

/-- CKPT_BEGIN. -/
def execCkptBegin (s : State) (corrected : Nat := 0) : Host.Outcome State Fault Refusal :=
  .next (if s.passDue then (s.beginPass.settle).correctWords corrected else s)

/-! ## Record phase (R154) -/

/-- The pass goes on in a phase. -/
def State.setPassPhase (s : State) (p : PassPhase) : State :=
  s.setJrn { s.jrn with pass := s.jrn.pass.map (fun x => { x with phase := p }) }

/-- The phase after the visit of a record id. -/
def phaseAfter (id : Nat) : PassPhase :=
  if id + 1 < Config.recordPlaces then .records (id + 1) else .retired none

/-- The entry of a visit: none for a free place, and none for a record made there since the cursor came. -/
def State.visitEntries (s : State) (id : Nat) : List Entry :=
  match s.recordOf id with
  | none => []
  | some r => if s.map.passNew then [] else [.ckptRecord r.entryBody]

/-- The pass goes on: the part works, and the journal is not in JOURNAL_FAULT, where the pass stops at its cursor
(R152). -/
def State.passRuns (s : State) : Bool := s.awake && s.jrn.fault.isNone

/-- The record id that the pass visits next. -/
def State.passCursor (s : State) : Option Nat :=
  match s.jrn.pass with
  | some ⟨_, _, .records id, _⟩ => some id
  | some ⟨_, _, .retired _, _⟩ | some ⟨_, _, .ended _, _⟩ | none => none

/-- A visit of the pass: the cursor stays where the entry cannot be taken. -/
def State.passVisit (s : State) (id : Nat) : State :=
  let x := s.offer true (s.visitEntries id)
  if x.2 then (x.1.setMap { x.1.map with passNew := false }).setPassPhase (phaseAfter id) else x.1

/-- CKPT_RECORD. -/
def execCkptRecord (s : State) (corrected : Nat := 0) : Host.Outcome State Fault Refusal :=
  .next (
    match s.passCursor with
    | none => s
    | some id => if s.passRuns then ((s.passVisit id).settle).correctWords corrected else s)

/-! ## Retired phase and end (R155) -/

/-- The slots of the retired phase, in ascending order. -/
def State.retiredSlots (s : State) : List Nat :=
  let held := s.pool.pendingRetire.filter (fun x =>
    match x.holder with
    | .job _ => true
    | .record _ => false)
  sortNats (s.pool.retired ++ (s.pool.quarantine.filter (fun q => q.retire)).map (fun q => q.slot) ++
    held.map (fun x => x.slot))

/-- A slot stands above the last slot that the pass recorded. -/
def aboveLast (last : Option Nat) (n : Nat) : Bool :=
  match last with
  | none => true
  | some m => decide (m < n)

/-- The slots of the next CKPT_RETIRED entry, in the retired phase. The phase goes on until CKPT_END is taken, so a slot
retired above the last one recorded while CKPT_END waits is recorded before it (log 62). -/
def State.nextRetired (s : State) : Option (List Nat) :=
  match s.jrn.pass with
  | some ⟨_, _, .retired last, _⟩ => some ((s.retiredSlots.filter (aboveLast last)).take 64)
  | some ⟨_, _, .records _, _⟩ | some ⟨_, _, .ended _, _⟩ | none => none

/-- One CKPT_RETIRED entry offered. -/
def State.recordRetired (s : State) (ss : List Nat) : State :=
  let x := s.offer true [.ckptRetired ss]
  if x.2 then x.1.setPassPhase (.retired ss.getLast?) else x.1

/-- CKPT_RETIRED. -/
def execCkptRetired (s : State) (corrected : Nat := 0) : Host.Outcome State Fault Refusal :=
  .next (
    match s.nextRetired with
    | none => s
    | some [] => s
    | some (n :: ns) => if s.passRuns then ((s.recordRetired (n :: ns)).settle).correctWords corrected else s)

/-- CKPT_END offered with the number of the pass. -/
def State.endPass (s : State) : State :=
  match s.jrn.pass with
  | none => s
  | some p =>
    let x := s.offer true [.ckptEnd p.number]
    if x.2 then x.1.setPassPhase (.ended x.1.jrn.lastJsn) else x.1

/-- CKPT_END: placed once no slot is left to record. -/
def execCkptEnd (s : State) (corrected : Nat := 0) : Host.Outcome State Fault Refusal :=
  .next (if s.passRuns && s.nextRetired = some [] then (s.endPass.settle).correctWords corrected else s)

end Sys2Proof.Machine
end

