-- ==== Sys2Proof/Machine/PowerCommands.lean ====
section
/-! DEFINITION. POWER and RESET, the supply's and the reset pin's events, the wakes and the refresh (chapter 9). -/

namespace Sys2Proof.Machine

/-! ## POWER (R175 to R179) -/

/-- A checkpoint is asked for; a pass in progress does not answer the request (R153, R177, R178). -/
def State.requestPass (s : State) : State :=
  s.setJrn { s.jrn with requested := true, pass := s.jrn.pass.map (fun p => { p with answers := false }) }

/-- A quiesce begins toward a target (R177). -/
def State.beginQuiesce (s : State) (target : SleepMode) (returnDoze : Bool) : State × Answer :=
  if s.jrn.fault.isSome then s.refuse .hold
  else
    let s := (s.setMode (.quiescing target returnDoze false)).withdrawWaiting
    (if target = .hibernate then s.requestPass else s, .defer .powerWaits)

/-- A quiesce goes on toward the target of a new request (R179). -/
def State.retarget (s : State) (old new : SleepMode) (returnDoze passDone : Bool) : State × Answer :=
  let s := s.answerPower .notReady .empty
  let s :=
    if old = new then s
    else
      let s := s.setMode (.quiescing new returnDoze (passDone && decide (new = .retain)))
      if new = .hibernate then s.requestPass else s.setJrn { s.jrn with requested := false }
  (s, .defer .powerWaits)

/-- A quiesce ends at a POWER(RUN) or a POWER(DOZE) (R179). -/
def State.cancelQuiesce (s : State) (m : Mode) : State × Answer :=
  let s := (s.setMode m).answerPower .notReady .empty
  (s.setJrn { s.jrn with requested := false }, .reply .ok (.mode m))

/-- POWER past the service-state table (R175). -/
def State.servePower (s : State) (code : Nat) : State × Answer :=
  match s.supply.mode, code with
  | .run, 0 | .doze, 0 => (s.setMode .run, .reply .ok (.mode .run))
  | .run, 1 | .doze, 1 => (s.setMode .doze, .reply .ok (.mode .doze))
  | .run, 3 => s.beginQuiesce .retain false
  | .run, 4 => s.beginQuiesce .hibernate false
  | .doze, 3 => s.beginQuiesce .retain true
  | .doze, 4 => s.beginQuiesce .hibernate true
  | .quiescing _ _ _, 0 => s.cancelQuiesce .run
  | .quiescing _ _ _, 1 => s.cancelQuiesce .doze
  | .quiescing t d p, 3 => s.retarget t .retain d p
  | .quiescing t d p, 4 => s.retarget t .hibernate d p
  | _, _ => s.refuse .range

/-- POWER. -/
def execPower (tag mode : Nat) (s : State) (corrected : Nat := 0) : Host.Outcome State Fault Refusal :=
  let mode := carriedIn 1 mode
  .next (s.requestReading .iLink tag (.power mode) corrected (fun t => t.servePower mode))

/-! ## RESET and the reset pin (R186) -/

/-- RESET: a warm start, and no reply. -/
def execReset (tag : Nat) (s : State) (corrected : Nat := 0) : Host.Outcome State Fault Refusal :=
  .next (s.requestReading .iLink tag .reset corrected (fun t => (t.warmStart .resetRequest, .silent)))

/-- RSTn goes low for long enough: the map memory is refreshed, and frames stop; in HIBERNATE a cold start is made
(R181, R186, log 11). In a part held in reset only the pin is low, until the warm start after that reset (log 10). -/
def State.lowerRstn (s : State) : State :=
  if s.supply.heldLowest.isSome then s.setSupply { s.supply with rstn := .low }
  else if s.supply.mode = .hibernate then s.endHibernate .rstn .lowAfterCold
  else s.setSupply { s.supply with rstn := .low, memory := .refreshed }

/-- RSTN_LOW: a pulse shorter than 1 µs is ignored. -/
def execRstnLow (nanos : Nat) (s : State) : Host.Outcome State Fault Refusal :=
  .next (if 1000 ≤ nanos ∧ s.supply.rstn = .high then s.lowerRstn else s)

/-- RSTn returns high: the warm start is made, unless the part made a cold start of it already, is held in reset, or
stands in HIBERNATE with a map memory that is not refreshed (R186; log 10, log 11). The first of these holds also where
a brown-out or power-on reset came between (DESIGN CHOICE, log 66). Words that the warm start's reads correct are
counted (R189). -/
def State.raiseRstn (s : State) (corrected : Nat) : State :=
  match s.supply.rstn with
  | .high => s
  | .low =>
    if s.supply.heldLowest.isSome then s.setSupply { s.supply with rstn := .high }
    else if s.supply.mode = .hibernate then s.endHibernate .rstn .high
    else ((s.warmStart .rstn).settle).correctWords corrected
  | .lowAfterCold => ((s.setSupply { s.supply with rstn := .high }).judgePorts).settle

/-- WARM_START. -/
def execWarmStart (s : State) (corrected : Nat := 0) : Host.Outcome State Fault Refusal := .next (s.raiseRstn corrected)

/-! ## The supply (R182 to R185) -/

/-- The part is held in reset, and its lines are released (R185, R196). -/
def State.holdReset (s : State) (vdd : Nat) : State :=
  let lowest := match s.supply.heldLowest with
    | none => vdd
    | some v => min v vdd
  let s := s.setSupply { s.supply with vdd := vdd, heldLowest := some lowest, memory := .off }
  let release := fun (p : Port) => { p with attention := false }
  s.setPorts { i := release s.ports.i, d := release s.ports.d, f := release s.ports.f }

/-- The pins take new levels: the warning is judged; a reset that holds the part goes on below 4.20 V, and ends at
4.20 V or more (R182, R185). -/
def State.supplyPins (s : State) (pfwnLow : Bool) (vdd : Nat) : State :=
  let t := s.setSupply { s.supply with pfwnLow := pfwnLow, vdd := vdd }
  match s.supply.heldLowest with
  | none => t.judgeWarning.settle
  | some lowest => if vdd < 4200 then t.holdReset vdd else t.endHeld lowest

/-- The warning starts from `s` to `t` in a part that is awake, and so reads its map memory. -/
def State.startReads (s t : State) : Bool := s.awake && !s.supply.warning && t.supply.warning

/-- WARNING_START: PFWn or VDD takes a level at which the warning starts. -/
def execWarningStart (pfwnLow : Bool) (vdd : Nat) (s : State) (corrected : Nat := 0) :
    Host.Outcome State Fault Refusal :=
  let t := s.supplyPins pfwnLow vdd
  .next (if s.startReads t then t.correctWords corrected else t)

/-- CLEARING_FILTER: PFWn or VDD takes a level that starts or stops the clearing filter. -/
def execClearingFilter (pfwnLow : Bool) (vdd : Nat) (s : State) : Host.Outcome State Fault Refusal :=
  .next (s.supplyPins pfwnLow vdd)

/-- The clearing filter has run for 50 ms (R182). -/
def State.warningEnds (s : State) : Bool :=
  s.judgesWarning && s.supply.warning &&
    match s.supply.filter with
    | none => false
    | some t => decide (50 ≤ t)

/-- WARNING_CLEAR (R184). -/
def execWarningClear (s : State) : Host.Outcome State Fault Refusal :=
  .next (if s.warningEnds then s.clearWarning.settle else s)

/-- BROWN_OUT: VDD below 4.20 V for 20 µs holds the part in reset; a shorter dip may start the warning. -/
def execBrownOut (vdd nanos : Nat) (s : State) : Host.Outcome State Fault Refusal :=
  .next (if vdd < 4200 ∧ 20000 ≤ nanos then s.holdReset vdd else s.supplyPins s.supply.pfwnLow vdd)

/-- COLD_START: VDD has come to a level, and at 4.20 V or more the reset that held the part ends (R185). -/
def execColdStart (vdd : Nat) (s : State) : Host.Outcome State Fault Refusal :=
  .next (s.supplyPins s.supply.pfwnLow vdd)

/-! ## Wakes and refresh -/

/-- RETAIN_WAKE: a frame start in RETAIN (R180). -/
def execRetainWake (_link : Link) (corrected : Nat) (s : State) : Host.Outcome State Fault Refusal :=
  .next (if s.receives && s.supply.mode = .retain then (s.wakeRetain.correctWords corrected).settle else s)

/-- HIBERNATE_WAKE: a frame start in HIBERNATE (R181). -/
def execHibernateWake (_link : Link) (s : State) : Host.Outcome State Fault Refusal :=
  .next (if s.receives && s.supply.mode = .hibernate then s.endHibernate .hibernateWake s.supply.rstn else s)

/-- REFRESH: the refresh timer starts again; nothing else changes (R188). -/
def execRefresh (s : State) : Host.Outcome State Fault Refusal :=
  .next (if s.supply.memory = .refreshed then s.setSupply { s.supply with refreshTimer := 0 } else s)

end Sys2Proof.Machine
end

