-- ==== Sys2Proof/Machine/Idle.lean ====
section
/-! DEFINITION. What the part does of its own while no command waits (log 4): it takes the next accepted request, or
its first due event, and otherwise 1 ms of the time base passes. -/

namespace Sys2Proof.Machine

/-- The command that takes a request of a link under a tag; its reads correct no word. -/
def requestCommand (l : Link) (tag : Nat) : Request → Instr
  | .locate g n => .locate tag g n 0
  | .writeOpen g n => .writeOpen tag g n 0
  | .writeClose h g o => .writeClose tag h g o 0
  | .discard g n => .discard tag g n 0
  | .pin g n => .pin tag g n 0
  | .unpin g n => .unpin tag g n 0
  | .sync => .sync tag 0
  | .power m => .power tag m 0
  | .reset => .reset tag 0
  | .spindle v => .spindle tag v 0
  | .fetch => .fetch l tag 0
  | .finish id g o img => .finish l tag id g o img 0
  | .attach p => .attach tag p 0
  | .format a b => .format tag a b 0
  | .retire n => .retire tag n 0
  | .setParam p v => .setParam l tag p v 0
  | .getParam p => .getParam l tag p
  | .status => .status l tag 0
  | .getNotice => .getNotice l tag

/-- The command that takes the next request of a link. -/
def State.nextCommand (s : State) (l : Link) : Option Instr :=
  match s.nextRequest l with
  | none => none
  | some a => (frameRequest a.frame).map (requestCommand l (frameTag a.frame))

/-- The requests that wait on the three links. -/
def State.waitingRequests (s : State) : List Instr :=
  if s.awake && s.supply.rstn = .high then [Link.iLink, Link.dLink, Link.fLink].filterMap s.nextCommand else []

/-- An event, when it is due. -/
def due (p : Bool) (i : Instr) : List Instr := if p then [i] else []

/-- Events of the timers that are due: write timeouts, the linger timer, the epoch timer, the clearing filter. -/
def State.timedEvents (s : State) : List Instr :=
  ((List.range Config.handles).filter (fun h => s.awake && s.timeoutDue h)).map (fun h => Instr.writeTimeout h 0) ++
    due (s.awake && s.lingerDue) (.lingerExpiry 0) ++ due s.epochDue (.epochTick 0) ++
    due (s.judgesWarning && s.supply.warning && s.supply.filter.isNone && s.filterMayRun)
      (.clearingFilter s.supply.pfwnLow s.supply.vdd) ++
    due s.warningEnds .warningClear

/-- The next withdrawal of RESUME would be placed, or ends RESUME. -/
def State.withdrawalReady (s : State) : Bool :=
  s.resuming &&
    match s.absorbOpens with
    | [] => true
    | r :: _ => s.canTake false ((Change.start s).drop r).entries

/-- The head of the COMPLETING jobs would complete. -/
def State.completionReady (s : State) : Bool :=
  s.awake &&
    match s.completingHead with
    | none => false
    | some j => s.canTake false (s.completionChange j).entries

/-- The next step of the checkpoint pass that would be taken (log 35). -/
def State.passEvents (s : State) : List Instr :=
  due (s.passDue && s.canTake true [.ckptBegin s.jrn.nextCkpt]) (.ckptBegin 0) ++
    (match s.passCursor with
     | none => []
     | some id => due (s.passRuns && s.canTake true (s.visitEntries id)) (.ckptRecord 0)) ++
    (match s.nextRetired with
     | none => []
     | some [] => due (s.passRuns && s.canTake true [.ckptEnd s.jrn.nextCkpt]) (.ckptEnd 0)
     | some (n :: ns) => due (s.passRuns && s.canTake true [.ckptRetired (n :: ns)]) (.ckptRetired 0))

/-- Events of the journal, the jobs and the pool that wait and would be taken now (R146; log 35). -/
def State.waitingEvents (s : State) : List Instr :=
  due s.withdrawalReady (.withdrawal 0) ++ due s.completionReady (.completingJobCompletion 0) ++
    ((List.range Config.handles).filter (fun h => s.awake && s.heldCloseReady h)).map
      (fun h => Instr.heldTimeoutClose h 0) ++
    ((s.records.map (fun r => r.id)).filter (fun id => s.works && s.releaseReady id)).map
      (fun id => Instr.waitingRetirementRelease id 0) ++
    s.passEvents

/-- Events of the planner that are due. -/
def State.plannerEvents (s : State) : List Instr :=
  due s.writebackReady (.writebackStart 0) ++ due s.promotionReady (.promotionStart 0) ++
    due s.victimReady (.victimRelease 0) ++ due (s.works && s.plan.cursor.isSome) (.sweepVisit 0)

/-- VDD is left below 4.20 V and the part is not held yet: within the next 1 ms it has stayed there for 20 µs (R185). -/
def State.brownOutDue (s : State) : Bool := s.supply.heldLowest.isNone && decide (s.supply.vdd < 4200)

/-- The part's next own event (log 4); its reads correct no word (log 7). The hold of a brown-out begins at the level
at which VDD stands then (log 63). -/
def State.ownEvent (s : State) : Option Instr :=
  (due s.brownOutDue (.brownOut s.supply.vdd 20000) ++ s.waitingRequests ++ s.timedEvents ++ s.waitingEvents ++
    s.plannerEvents).head?

/-- 1 ms of the time base passes (section 6.2 of the overview, R31, R182, R188). -/
def State.passTime (s : State) : State :=
  let t := s.setNow (s.now + 1)
  let t := if s.epochCounts then t.setHeat { s.heat with timer := s.heat.timer + 1 } else t
  t.setSupply
    { t.supply with
      filter := if s.judgesWarning then t.supply.filter.map (fun n => min 50 (n + 1)) else t.supply.filter
      refreshTimer := if t.supply.memory = .refreshed then t.supply.refreshTimer + 1 else t.supply.refreshTimer }

end Sys2Proof.Machine
end

