-- ==== Sys2Proof/Machine/Dispatch.lean ====
section
/-! DEFINITION. The dispatch: one arm for each command, one direct call of its meaning. -/

namespace Sys2Proof.Machine

def exec (i : Instr) (s : State) : Host.Outcome State Fault Refusal :=
  match i with
  | .frameArrival l bs => Sys2Proof.Machine.execFrameArrival l bs s
  | .locate t g n e => Sys2Proof.Machine.execLocate t g n e s
  | .writeOpen t g n e => Sys2Proof.Machine.execWriteOpen t g n e s
  | .writeClose t h g o e => Sys2Proof.Machine.execWriteClose t h g o s e
  | .discard t g n e => Sys2Proof.Machine.execDiscard t g n s e
  | .pin t g n e => Sys2Proof.Machine.execPin t g n s e
  | .unpin t g n e => Sys2Proof.Machine.execUnpin t g n s e
  | .sync t e => Sys2Proof.Machine.execSync t s e
  | .power t m e => Sys2Proof.Machine.execPower t m s e
  | .reset t e => Sys2Proof.Machine.execReset t s e
  | .setParam l t p v e => Sys2Proof.Machine.execSetParam l t p v s e
  | .getParam l t p => Sys2Proof.Machine.execGetParam l t p s
  | .status l t e => Sys2Proof.Machine.execStatus l t e s
  | .getNotice l t => Sys2Proof.Machine.execGetNotice l t s
  | .spindle t v e => Sys2Proof.Machine.execSpindle t v s e
  | .fetch l t e => Sys2Proof.Machine.execFetch l t s e
  | .finish l t o g r b e => Sys2Proof.Machine.execFinish l t o g r b s e
  | .attach t p e => Sys2Proof.Machine.execAttach t p s e
  | .format t a b e => Sys2Proof.Machine.execFormat t a b s e
  | .retire t n e => Sys2Proof.Machine.execRetire t n s e
  | .epochTick e => Sys2Proof.Machine.execEpochTick s e
  | .writeTimeout h e => Sys2Proof.Machine.execWriteTimeout h s e
  | .heldTimeoutClose h e => Sys2Proof.Machine.execHeldTimeoutClose h s e
  | .lingerExpiry e => Sys2Proof.Machine.execLingerExpiry s e
  | .warningStart p v e => Sys2Proof.Machine.execWarningStart p v s e
  | .clearingFilter p v => Sys2Proof.Machine.execClearingFilter p v s
  | .warningClear => Sys2Proof.Machine.execWarningClear s
  | .brownOut v n => Sys2Proof.Machine.execBrownOut v n s
  | .coldStart v => Sys2Proof.Machine.execColdStart v s
  | .rstnLow n => Sys2Proof.Machine.execRstnLow n s
  | .warmStart e => Sys2Proof.Machine.execWarmStart s e
  | .retainWake l e => Sys2Proof.Machine.execRetainWake l e s
  | .hibernateWake l => Sys2Proof.Machine.execHibernateWake l s
  | .refresh => Sys2Proof.Machine.execRefresh s
  | .mapLoss e => Sys2Proof.Machine.execMapLoss e s
  | .promotionStart e => Sys2Proof.Machine.execPromotionStart s e
  | .victimRelease e => Sys2Proof.Machine.execVictimRelease s e
  | .writebackStart e => Sys2Proof.Machine.execWritebackStart s e
  | .sweepVisit e => Sys2Proof.Machine.execSweepVisit s e
  | .completingJobCompletion e => Sys2Proof.Machine.execCompletingJobCompletion s e
  | .ckptBegin e => Sys2Proof.Machine.execCkptBegin s e
  | .ckptRecord e => Sys2Proof.Machine.execCkptRecord s e
  | .ckptRetired e => Sys2Proof.Machine.execCkptRetired s e
  | .ckptEnd e => Sys2Proof.Machine.execCkptEnd s e
  | .withdrawal e => Sys2Proof.Machine.execWithdrawal s e
  | .waitingRetirementRelease r e => Sys2Proof.Machine.execWaitingRetirementRelease r s e

end Sys2Proof.Machine
end

