-- ==== Sys2Proof/Machine/Step.lean ====
section
/-! DEFINITION. One step of the part: the command at the front of its queue, or, on an empty queue, an event of its
own or 1 ms of time (log 4). -/

namespace Sys2Proof.Machine

/-- A step on an empty queue. -/
def idleStep (s : State) : Host.Outcome State Fault Refusal :=
  match s.ownEvent with
  | some i => exec i s
  | none => .next s.passTime

/-- One step. -/
def step (s : State) : Host.Outcome State Fault Refusal :=
  match s.pending with
  | i :: rest => exec i (s.setPending rest)
  | [] => idleStep s

/-- The state with the command that a word spells at the front of its queue; unchanged where the word spells none. -/
def State.withFetchWord (s : State) (nbits w : Nat) : State :=
  match decodeTableWord nbits w with
  | some i => s.setPending (i :: s.pending)
  | none => s

end Sys2Proof.Machine
end

