-- ==== Sys2Proof/Safety.lean ====
section
/-! DEFINITION. What counts as a safe run and when a command can be served: a link ready for a request, the invariants
that every step keeps, and the terms that statements share. -/

namespace Sys2Proof.Machine

/-! ## A link ready for a request -/

/-- The part works, RSTn is high, no request of the link waits to be taken, the link has credit and the tag is free
(R190, R191, R193). -/
def State.ready (s : State) (l : Link) (tag : Nat) : Bool :=
  s.awake && s.supply.rstn = .high && (s.nextRequest l).isNone &&
    decide ((s.port l).accepted.length < Config.linkCredits) && !(s.port l).tagsInUse.contains tag

/-- A request on the accepted-request list, as its frame put it there. -/
def listed (r : Request) (tag : Nat) : Accepted :=
  { frame := requestFrame r tag, duplicate := false, standing := .accepted }

/-- The state once the frame of a request has been accepted. -/
def State.listing (s : State) (l : Link) (r : Request) (tag : Nat) : State :=
  s.setPort l { s.port l with accepted := (s.port l).accepted ++ [listed r tag] }

/-- The reply to a request of a link under a tag. -/
def replyTo (r : Request) (l : Link) (tag : Nat) (c : ReplyCode) (b : ReplyBody) : Reply :=
  { link := l, tag := tag, kind := BitVec.ofNat 8 (requestKind r), outcome := c, body := b }

/-- A step that changes no job, no open write and no pass ends no quiesce: the mode is RUN or DOZE, or the quiesce in
progress waits for a job, an open write or its pass (R178). -/
def State.steady (s : State) : Bool :=
  match s.supply.mode with
  | .run | .doze => true
  | .quiescing target _ passDone =>
    !s.work.jobs.isEmpty || decide (0 < s.openWrites) || !(decide (target = .retain) || passDone)
  | .retain | .hibernate => false

/-- A step that ends jobs, the pass and one open write ends no quiesce: the mode is RUN or DOZE, or the quiesce in
progress waits for two open writes or more (R178). -/
def State.enduring (s : State) : Bool :=
  match s.supply.mode with
  | .run | .doze => true
  | .quiescing _ _ _ => decide (1 < s.openWrites)
  | .retain | .hibernate => false

/-- The planner's judgements at the end of a step change nothing: of SPIN_WANTED (R109), and of a start that is owed,
which then still holds (R110). -/
def State.calm (s : State) : Bool :=
  !s.serving ||
    ((if s.dirtyGrains < s.highMark then s.plan.armed else !s.plan.armed || decide (s.work.spindle = .spinning)) &&
      (s.supply.heldLowest.isSome || s.owedHolds))

/-- The judgement of a quiesce at the end of a step changes nothing: where the quiesce waits for the journal alone, the
durable JSN has not reached the last JSN assigned, and the emission of the entries left is asked for (R178). -/
def State.quiesceCalm (s : State) : Bool :=
  match s.supply.mode with
  | .quiescing target _ passDone =>
    s.supply.rstn ≠ .high || s.supply.heldLowest.isSome || !s.work.jobs.isEmpty || decide (0 < s.openWrites) ||
      !(decide (target = .retain) || passDone) ||
      (decide (s.jrn.durableJsn ≠ s.jrn.lastJsn) &&
        (!s.hasUnemitted || s.jrn.fault.isSome || s.jrn.pendingEmission.isSome))
  | .run | .doze | .retain | .hibernate => true

/-- A link ready for a request of a serving part whose step ends without a judgement. -/
def State.serves (s : State) (l : Link) (tag : Nat) : Bool :=
  s.serving && s.ready l tag && decide (tag < 16) && s.steady && s.calm

/-- A range that admission passes (R52). -/
def State.admits (s : State) (first count : Nat) : Bool :=
  decide (1 ≤ count) && decide (count ≤ 64) && decide (first + count ≤ s.map.diskGrains) && decide (first < 2 ^ 32)

/-- The words that a command's reads correct are counted (R189). -/
def State.afterReads (s : State) (corrected : Nat) : State :=
  s.setSupply { s.supply with corrected := min 65535 (s.supply.corrected + corrected) }

/-- From one candidate list to another the head check takes the entries in front that fail it, and no other: the
records of those that go are unpinned and below T_PROMOTE, and the head left is pinned or not below it (R95). -/
def State.headChecked (s : State) (tPromote epoch : Nat) (left : List Candidate) : Prop :=
  ∃ gone, s.plan.candidates = gone ++ left ∧
    (∀ c ∈ gone, ∃ r, s.recordOf c.record = some r ∧ r.pinned = false ∧ r.density epoch < tPromote) ∧
    ∀ c r, left.head? = some c → s.recordOf c.record = some r → r.pinned = true ∨ tPromote ≤ r.density epoch

/-- From `s` to `t` the stream table takes in a range (R44 to R46): the entry that holds its first grain as next grain
moves to the front with its run raised, and the range is streamed when that run is at least STREAM_MIN; without such an
entry a run begins, the range is not streamed, and the least recent of eight entries gives way. An entry that holds the
same next grain is emptied. So it is for a table of at most eight entries with a next grain each. -/
def State.followsStream (s t : State) (first count : Nat) : Prop :=
  (s.heat.stream.map (fun e => e.next)).Nodup → s.heat.stream.length ≤ 8 →
    (∀ before e after, s.heat.stream = before ++ e :: after → e.next = first →
      let run := min 65535 (e.run + count)
      t.heat.stream =
        { next := first + count, run := run } :: (before ++ after).filter (fun x => x.next ≠ first + count) ∧
      (s.isStreamed first count = true ↔ s.params.streamMin ≤ run)) ∧
    ((∀ e ∈ s.heat.stream, e.next ≠ first) → s.isStreamed first count = false ∧
      ∃ rest gone, s.heat.stream.filter (fun x => x.next ≠ first + count) = rest ++ gone ∧
        t.heat.stream = { next := first + count, run := count } :: rest ∧
        gone.length = if (s.heat.stream.filter (fun x => x.next ≠ first + count)).length = 8 then 1 else 0)

/-- No slot of a record awaits retirement (R86). -/
def State.unretired (s : State) (r : Rec) : Bool :=
  s.pool.pendingRetire.all (fun x => decide (x.holder ≠ .record r.id) && decide (x.slot ∉ r.slots))

/-- A record once it is released: TRACKED, without slots (R24). -/
def Rec.released (r : Rec) : Rec := { r with state := .tracked, slots := [], attempts := 0 }

/-- The SLOT_RETIRE entries that follow a record's slots into the quarantine: one for each that awaits retirement
(R83, R86). -/
def State.retirements (s : State) (slots : List Nat) : List Entry :=
  (s.pool.pendingRetire.filter (fun x => x.slot ∈ slots)).map (fun x => .slotRetire x.slot)

/-- From `s` to `t` slots leave their record for the tail of the quarantine, keyed by the `k`-th entry placed, and
those that awaited retirement are marked retire-on-exit and wait no longer (R81, R86); no other slot moves. -/
def State.givesUp (s t : State) (slots : List Nat) (k : Nat) : Prop :=
  t.pool = { s.pool with
    quarantine := s.pool.quarantine ++ slots.map (fun n =>
      ⟨n, jsnAdd s.jrn.lastJsn k, s.pool.pendingRetire.any (fun x => x.slot = n)⟩)
    pendingRetire := s.pool.pendingRetire.filter (fun x => x.slot ∉ slots) }

/-- The open page has room for entries, one after another (R145). -/
def State.hasRoom (s : State) (es : List Entry) : Prop :=
  s.jrn.fault = none ∧ ∃ p, s.jrn.page = some p ∧ p.full = false ∧ (p.passOnly = true → s.jrn.pass = none) ∧
    p.used + (es.map Entry.size).sum ≤ Config.payloadBytes

/-- A grain lies in a range. -/
def inRange (first count g : Nat) : Prop := first ≤ g ∧ g < first + count

/-- The slot that holds a grain, if its record holds slots (R54). -/
def State.slotAt (s : State) (g : Nat) : Option Nat := (s.flashAt g).map (fun r => r.slots.getD (g - r.first) 0)

/-- A grain is dirty: its position is set in the dirty mask of its record. -/
def State.dirtyAt (s : State) (g : Nat) : Bool := (s.recordAt g).any (fun r => r.dirty.getLsbD (g - r.first))

/-- The journal takes the entries of a change, if it has any. -/
def Change.fits (c : Change) : Bool := c.st.canTake false c.entries

/-- A record meets a range. -/
def Rec.met (r : Rec) (first count : Nat) : Bool := decide (r.first < first + count) && decide (first < r.first + r.len)

/-- The positions of a record's mask that lie in a range it meets. -/
def Rec.covered (r : Rec) (first count : Nat) : Mask :=
  maskRange (max r.first first - r.first) (min (r.first + r.len) (first + count) - max r.first first)

/-- A record with slots after a write has routed the grains of a range into it (R20). -/
def Rec.routed (r : Rec) (first count : Nat) : Rec :=
  match r.state with
  | .mirrored | .dirty => { r with state := .dirty, dirty := r.dirty ||| r.covered first count }
  | .writingBack =>
    { r with dirty := r.dirty ||| r.covered first count, rewrite := r.rewrite ||| r.covered first count }
  | .tracked | .promoting => r

/-! ## Entries in the open page (R141, R142, R144) -/

/-- The body of an entry that describes a record: PROMOTING as TRACKED, WRITING_BACK as DIRTY with both masks, and a
record with absorb-open set as wholly dirty (R141, R154). -/
def Rec.described (r : Rec) : ExtentBody where
  first := r.first
  len := r.len
  pinned := r.pinned
  absorbOpen := r.absorbOpen
  heat := r.heat
  epoch := r.epoch
  state := match r.state with
    | .tracked | .promoting => .tracked
    | .mirrored => .mirrored
    | .dirty | .writingBack => .dirty
  slots := match r.state with
    | .tracked | .promoting => []
    | .mirrored | .dirty | .writingBack => r.slots
  dirty := match r.state with
    | .tracked | .promoting | .mirrored => 0
    | .dirty => if r.absorbOpen then maskRange 0 r.len else r.dirty
    | .writingBack => r.dirty ||| r.rewrite

/-- From `s` to `t` the journal places these entries in their order and no other, one JSN each (R142, R144): all of
them in the open page, or, where they outrun it, the first of them there and the rest in the page after it, which
opens empty while an image holds the page before it. -/
def State.journaled (s t : State) (es : List Entry) : Prop :=
  if es = [] then t.jrn = s.jrn
  else
    t.jrn.lastJsn = jsnAdd s.jrn.lastJsn es.length ∧ t.jrn.durableJsn = s.jrn.durableJsn ∧
      ∃ p q, s.jrn.page = some p ∧ t.jrn.page = some q ∧
        ((t.jrn.head = s.jrn.head ∧ q.firstJsn = p.firstJsn ∧ q.entries = p.entries ++ es) ∨
          (t.jrn.head = s.jrn.head + 1 ∧ ∃ k, k < es.length ∧ q.firstJsn = jsnAdd s.jrn.lastJsn (k + 1) ∧
            q.entries = es.drop k ∧ ∃ i ∈ t.jrn.images, i.page.psn = s.jrn.head ∧ i.page.firstJsn = p.firstJsn ∧
              i.page.entries = p.entries ++ es.take k))

/-! ## Frames -/

/-- The fields of State, by name. -/
inductive Block where
  | pending
  | sent
  | now
  | ports
  | params
  | map
  | heat
  | writes
  | pool
  | plan
  | work
  | jrn
  | recovery
  | supply
  | owed
  deriving DecidableEq, Repr

/-- Two states hold the same in a block; the note of the start that is owed is the same or has lapsed, since its
conditions are judged as every step ends (log 58). -/
def State.agrees (s t : State) : Block → Prop
  | .pending => t.pending = s.pending
  | .sent => t.sent = s.sent
  | .now => t.now = s.now
  | .ports => t.ports = s.ports
  | .params => t.params = s.params
  | .map => t.map = s.map
  | .heat => t.heat = s.heat
  | .writes => t.writes = s.writes
  | .pool => t.pool = s.pool
  | .plan => t.plan = s.plan
  | .work => t.work = s.work
  | .jrn => t.jrn = s.jrn
  | .recovery => t.recovery = s.recovery
  | .supply => t.supply = s.supply
  | .owed => t.owed = s.owed ∨ t.owed = none

/-- Every block but those listed is unchanged from `s` to `t`. -/
def State.changesOnly (s t : State) (bs : List Block) : Prop := ∀ b, b ∉ bs → s.agrees t b

/-- The accepted-request list and the mask of a link are unchanged. -/
def State.keepsLists (s t : State) : Prop :=
  ∀ l, (t.port l).accepted = (s.port l).accepted ∧ (t.port l).mask = (s.port l).mask

/-! ## Journal pages that fit their layout -/

/-- An extent entry whose fields fit their bytes: 1 to 64 grains, and a slot for each grain exactly when the state
holds a slot list (section 11.4). -/
def ExtentBody.fits (b : ExtentBody) : Bool :=
  decide (b.first < 2 ^ 32) && decide (1 ≤ b.len) && decide (b.len ≤ 64) && decide (b.heat < 2 ^ 16) &&
    decide (b.epoch < 2 ^ 32) && b.slots.all (fun n => decide (n < 2 ^ 24)) &&
    match b.state with
    | .tracked => b.slots.isEmpty
    | .mirrored | .dirty => decide (b.slots.length = b.len)

/-- An entry whose fields fit their bytes. -/
def Entry.fits : Entry → Bool
  | .extentSet b | .absorbOpen b | .ckptRecord b => b.fits
  | .absorbCommit g => decide (g < 2 ^ 32)
  | .extentDrop g n => decide (g < 2 ^ 32) && decide (n < 256)
  | .slotRetire n => decide (n < 2 ^ 32)
  | .ckptBegin n | .ckptEnd n => decide (n < 2 ^ 32)
  | .ckptRetired ss => decide (1 ≤ ss.length) && decide (ss.length ≤ 64) && ss.all (fun n => decide (n < 2 ^ 24))

/-- A page whose header fields fit their bytes and whose entries fit its payload. -/
def Page.fits (p : Page) : Bool :=
  decide (p.psn < 2 ^ 32) && decide (p.firstJsn < 2 ^ 32) && decide (p.epoch < 2 ^ 32) && decide (p.tail < 2 ^ 32) &&
    decide (p.slotCount < 2 ^ 32) && decide (p.diskGrains < 2 ^ 32) && p.entries.all Entry.fits &&
    decide ((p.entries.map Entry.size).sum ≤ Config.payloadBytes)

/-! ## Invariants -/

/-- Credits, tags and notices of a link (R190, R191, R195): at most eight requests on the list, no tag in use twice,
and at most one notice of each kind, in the order of their codes. -/
def Port.sound (p : Port) : Prop :=
  p.accepted.length ≤ Config.linkCredits ∧ p.tagsInUse.Nodup ∧ p.notices.Pairwise (fun m n => m.code < n.code)

/-- The three links are sound. -/
def State.linksSound (s : State) : Prop := s.ports.i.sound ∧ s.ports.d.sound ∧ s.ports.f.sound

/-- The service states that a power mode other than RUN, a phase of the recovery unit and a format page go with
(R161, R162, R163 to R173); a quiesce stands in a journal without a fault, since JOURNAL_FAULT keeps one from its begin
and ends one in progress (R152, R175, R179). -/
def State.serviceSound (s : State) : Prop :=
  (s.supply.mode ≠ .run → s.recovery.service = .serving) ∧
    (s.recovery.phase ≠ .none ↔ s.recovery.service = .recovering) ∧
    (s.recovery.format.isSome ↔ s.recovery.service = .formatting) ∧
    (s.quiescing = true → s.jrn.fault = none)

/-- Parameters within their ranges (table of section 10.4), DIRTY_LOW at least 5 below DIRTY_HIGH (R106), the write
budget at or below its cap (R47, R50), masks of carried kinds (R196). -/
def State.paramsSound (s : State) : Prop :=
  (∀ p l, p ≠ .noticeMask → p.range.1 ≤ s.paramValue l p ∧ s.paramValue l p ≤ p.range.2) ∧
    s.params.dirtyLow + 5 ≤ s.params.dirtyHigh ∧ s.heat.budget ≤ s.params.budgetCap ∧
    ∀ l, (s.port l).mask &&& ~~~(carried l) = 0

/-- Tables within their sizes: issued sets (R122), generations (R119), stream table (R43), counts that saturate (R187,
R189). -/
def State.tablesSound (s : State) : Prop :=
  s.params.issueDepthD ≤ 4 ∧ s.params.issueDepthF ≤ 4 ∧
    s.work.dIssued.length ≤ 4 ∧ s.work.fIssued.length ≤ 4 ∧ s.work.gens.length = 32 ∧ (∀ g ∈ s.work.gens, g < 16) ∧
    s.heat.stream.length ≤ 8 ∧ s.supply.brownOuts ≤ 255 ∧ s.supply.corrected ≤ 65535

/-- The extents of the record table: 1 to 64 grains in one band, apart from one another, each under an id of its own
(R1 to R3). -/
def extentsSound (rs : List Rec) : Prop :=
  rs.Pairwise (fun a b => a.stop ≤ b.first) ∧ (rs.map (fun r => r.id)).Nodup ∧
    ∀ r ∈ rs, r.id < Config.recordPlaces ∧ 1 ≤ r.len ∧ r.len ≤ 64 ∧ bandOf r.first = bandOf (r.first + r.len - 1)

/-- The open page: its entries take the JSNs from its first JSN up to the last JSN assigned (R142, R144), and its used
bytes are those of its entries. -/
def OpenPage.sound (p : OpenPage) (lastJsn : Nat) : Prop :=
  1 ≤ p.firstJsn ∧ p.firstJsn ≤ Config.top32 ∧ p.used = (p.entries.map Entry.size).sum ∧
    p.unemitted ≤ p.entries.length ∧
    if p.entries = [] then p.firstJsn = jsnNext lastJsn else lastJsn = jsnAdd p.firstJsn (p.entries.length - 1)

/-- The journal's count of entries: 32 bits, going on in the open page (R142). -/
def State.journalSound (s : State) : Prop :=
  s.jrn.lastJsn ≤ Config.top32 ∧ (∀ p, s.jrn.page = some p → p.sound s.jrn.lastJsn) ∧
    ∀ r, s.recovery.phase = .replay r → r.lastJsn ≤ Config.top32

/-- The slots that a job holds in reservation (R79). -/
def Job.reserved (j : Job) : List Nat :=
  match j.kind with
  | .promote slots => slots
  | .writeback _ => []

/-- An open write lists a record. -/
def OpenWrite.lists (w : OpenWrite) (id : Nat) : Bool := w.listings.any (fun x => x.record = id)

/-- An open write created a record that it lists. -/
def OpenWrite.creates (w : OpenWrite) (id : Nat) : Bool := w.listings.any (fun x => x.record = id && x.createdHere)

/-- The jobs and their records (R88, R115): a job has a window and a record of its own; a record is PROMOTING or
WRITING_BACK exactly while a PROMOTE or a WRITEBACK job has it, the reservation a slot for each grain, and no
absorption is written back before its commit (R107). Outside SERVING there is no job (R139, R140). -/
def State.jobsSound (s : State) : Prop :=
  (s.serving = false → s.work.jobs = []) ∧
    (s.work.jobs.map (fun j => j.id)).Nodup ∧ (s.work.jobs.map (fun j => j.record)).Nodup ∧
    (∀ j ∈ s.work.jobs, ∃ r ∈ s.records, r.id = j.record ∧
      match j.kind with
      | .promote slots => r.state = .promoting ∧ slots.length = r.len
      | .writeback _ => r.state = .writingBack ∧ r.absorbOpen = false) ∧
    ∀ r ∈ s.records, r.state = .promoting ∨ r.state = .writingBack → ∃ j ∈ s.work.jobs, j.record = r.id

/-- The open writes and the records they list (R8, R61 to R63): a write lists live records, each once; the open-write
count of a record is the number of writes that list it; a record that a write created is DIRTY with absorb-open set,
and one write alone created it. In SERVING no other record has absorb-open set. Outside SERVING no write is open
(R77). The table has its 32 handles (R62). -/
def State.writesSound (s : State) : Prop :=
  s.writes.handles.length = Config.handles ∧
  (s.serving = false → ∀ h ∈ s.writes.handles, h.write = none) ∧
    (∀ h ∈ s.writes.handles, ∀ w, h.write = some w → (w.listings.map (fun x => x.record)).Nodup ∧
      ∀ x ∈ w.listings, ∃ r ∈ s.records, r.id = x.record ∧
        (x.createdHere = true → r.state = .dirty ∧ r.absorbOpen = true)) ∧
    ∀ r ∈ s.records,
      r.openWrites = s.writes.handles.countP (fun h => h.write.any (fun w => w.lists r.id)) ∧
      s.writes.handles.countP (fun h => h.write.any (fun w => w.creates r.id)) ≤ 1 ∧
      (s.serving = true → r.absorbOpen = true →
        s.writes.handles.countP (fun h => h.write.any (fun w => w.creates r.id)) = 1)

/-- Where no map is in use: in WAITING, BLANK and FORMATTING and in a hunt no record lives (R29, R172). While the map
is restated none has absorb-open set (R170). -/
def State.recordsIdle (s : State) : Prop :=
  ((s.recovery.service = .waiting ∨ s.recovery.service = .blank ∨ s.recovery.service = .formatting ∨
      ∃ h, s.recovery.phase = .hunt h) → s.records = []) ∧
    (s.recovery.phase = .restate → ∀ r ∈ s.records, r.absorbOpen = false)

/-- The records, the jobs and the open writes are coherent. -/
def State.mapSound (s : State) : Prop :=
  extentsSound s.records ∧ s.serviceSound ∧ s.recordsIdle ∧ s.jobsSound ∧ s.writesSound

/-- The order of the candidate list (R92): 64 entries at most, no record twice; the pinned part first, in the order of
entering it, then the unpinned part by descending hint, equal hints in the order of entering it. -/
def candidatesOrdered (cs : List Candidate) : Prop :=
  cs.length ≤ 64 ∧ (cs.map (fun c => c.record)).Nodup ∧ (cs.map (fun c => c.arrival)).Nodup ∧
    cs.Pairwise (fun a b =>
      if a.pinned = true then b.pinned = true → a.arrival < b.arrival
      else b.pinned = false ∧ (b.hint < a.hint ∨ (b.hint = a.hint ∧ a.arrival < b.arrival)))

/-- The candidate list (R92): in its order, every record listed TRACKED and in its part; empty outside SERVING (R113,
R114). -/
def State.candidatesSound (s : State) : Prop :=
  candidatesOrdered s.plan.candidates ∧ (s.serving = false → s.plan.candidates = []) ∧
    ∀ c ∈ s.plan.candidates, ∃ r ∈ s.records, r.id = c.record ∧ r.state = .tracked ∧ r.pinned = c.pinned

/-- A record on flash holds a slot for each grain, and no other holds one (R4). -/
def slotsFit (rs : List Rec) : Prop := ∀ r ∈ rs, r.slots.length = if r.onFlash = true then r.len else 0

/-- Each slot below SLOT_COUNT stands in exactly one place: the free pool, the quarantine, the retired set, a record, or
a reservation (R78). So it is in FORMATTING and SERVING, in RESUME and while the map is restated. In a replay, where
the pool is not built yet, no slot stands in two records, the rebuilt retired set is in ascending slot number without
duplicates, and all that is named lies below SLOT_COUNT (section 4.1, R167, R168). -/
def State.slotsPlaced (s : State) : Prop :=
  match s.recovery.phase, s.recovery.service with
  | .replay r, _ =>
    (s.records.flatMap (fun x => x.slots)).Nodup ∧ slotsFit s.records ∧
      (∀ x ∈ s.records, ∀ n ∈ x.slots, n < r.candidate.slotCount) ∧
      r.retired.Pairwise (fun a b => a < b) ∧ ∀ n ∈ r.retired, n < r.candidate.slotCount
  | .hunt _, _ | .none, .waiting | .none, .recovering | .none, .blank => True
  | .restate, _ | .resume, _ | .none, .formatting | .none, .serving =>
    let places := s.pool.free ++ s.pool.quarantine.map (fun q => q.slot) ++ s.pool.retired ++
      s.records.flatMap (fun x => x.slots) ++ s.work.jobs.flatMap Job.reserved
    places.Nodup ∧ (∀ n, n ∈ places ↔ n < s.map.slotCount) ∧ slotsFit s.records

end Sys2Proof.Machine
end

