-- ==== Sys2Proof/Certificates/Slice0/Obligations.lean ====
section
/-! DEFINITION. The statements for the provers, family by family. -/

open Sys2Proof Sys2Proof.Machine

/-! ## The queue, the idle step, reset -/

/-- One step takes the command at the front of the queue and runs it with the rest of the queue; and every command
answers a next state, takes nothing from the queue but itself, leaves the time base alone and takes no reply back (the
queue, the time base and the reply list are this model's own, log 4, log 5, log 40). -/
def Obligations.StepTakesFront : Prop :=
  (∀ (s : State) (c : Instr) (rest : List Instr), s.pending = c :: rest → step s = exec c (s.setPending rest)) ∧
  ∀ (c : Instr) (s : State), ∃ t rs, exec c s = .next t ∧ t.pending = s.pending ∧ t.now = s.now ∧ t.sent = s.sent ++ rs

/-- On an empty queue the part takes its own next event, and when none is due 1 ms passes: the time base counts, the
epoch timer counts in SERVING (R31), and a running clearing filter counts to 50 (R182), but not in HIBERNATE (R181) or
in a part held in reset; all else is kept. VDD left below 4.20 V holds the part in reset before anything else, since it
has then stayed there for 20 µs (R185). The order of the part's own events is the model's choice (log 4). -/
def Obligations.IdleStepPassesTime : Prop :=
  ∀ s : State, s.pending = [] →
    (∀ i, s.ownEvent = some i → step s = exec i s) ∧
    (s.supply.heldLowest = none → s.supply.vdd < 4200 →
      step s = .next ((s.setSupply
        { s.supply with heldLowest := some s.supply.vdd, memory := .off }).setPorts
        { i := { s.ports.i with attention := false }, d := { s.ports.d with attention := false }
          f := { s.ports.f with attention := false } })) ∧
    (s.ownEvent = none → ∃ t, step s = .next t ∧ t.now = s.now + 1 ∧ s.changesOnly t [.now, .heat, .supply] ∧
      t.owed = s.owed ∧
      t.heat = { s.heat with timer := if s.epochCounts then s.heat.timer + 1 else s.heat.timer } ∧
      t.supply = { s.supply with
        filter :=
          if s.supply.mode ≠ .hibernate ∧ s.supply.heldLowest = none then s.supply.filter.map (fun n => min 50 (n + 1))
          else s.supply.filter
        refreshTimer := t.supply.refreshTimer })

/-- The state after a power-on reset, by the tables at the heads of the chapters; it meets the invariants that every
step keeps. -/
def Obligations.ResetLeaves : Prop :=
  State.reset.recovery = { service := .waiting, ringPages := 0, phase := .none, format := none } ∧
  State.reset.records = [] ∧ State.reset.map.untracked = 0 ∧
  State.reset.heat = { epoch := 0, timer := 0, stream := [], budget := 16384 } ∧
  State.reset.writes = { handles := List.replicate 32 { gen := 0, write := none }, search := 31 } ∧
  State.reset.pool = { free := [], quarantine := [], retired := [], pendingRetire := [] } ∧
  State.reset.plan.candidates = [] ∧ State.reset.plan.victims = [] ∧ State.reset.plan.dirtyList = [] ∧
  State.reset.plan.cursor = none ∧ State.reset.plan.tickPending = false ∧ State.reset.plan.armed = true ∧
  State.reset.owed = none ∧
  State.reset.work.jobs = [] ∧ State.reset.work.gens = List.replicate 32 0 ∧
  State.reset.work.windowFences = [] ∧ State.reset.work.pageFences = [] ∧ State.reset.work.spindle = .stopped ∧
  State.reset.jrn.lastJsn = 0 ∧ State.reset.jrn.durableJsn = 0 ∧ State.reset.jrn.head = 0 ∧ State.reset.jrn.tail = 0 ∧
  State.reset.jrn.page = none ∧ State.reset.jrn.images = [] ∧ State.reset.jrn.fault = none ∧
  State.reset.supply.mode = .run ∧ State.reset.supply.warning = true ∧ State.reset.supply.filter = none ∧
  State.reset.supply.cause = .por ∧ State.reset.supply.brownOuts = 0 ∧ State.reset.supply.corrected = 0 ∧
  State.reset.params = Params.default ∧
  (∀ l, State.reset.port l = { accepted := [], notices := [], mask := 0, attention := false }) ∧
  State.reset.linksSound ∧ State.reset.serviceSound ∧ State.reset.paramsSound ∧ State.reset.tablesSound ∧
  State.reset.mapSound ∧ State.reset.candidatesSound ∧ State.reset.slotsPlaced ∧ State.reset.journalSound ∧
  State.reset.calm = true ∧
  State.reset.quiesceCalm = true

/-! ## Invariants -/

/-- Every step keeps the credits, tags and notice sets of the links sound; the service state in step with the power
mode, the phase of the recovery unit and the format page, and the journal without a fault while a quiesce is in progress
(R152, R175, R179); the parameters in their ranges, the write budget under its cap and the masks within the kinds
carried; and the tables within their sizes, no issued set growing past 4 orders: each of the four by itself. -/
def Obligations.RegistersStaySound : Prop :=
  ∀ s t : State, step s = .next t →
    (s.linksSound → t.linksSound) ∧ (s.serviceSound → t.serviceSound) ∧ (s.paramsSound → t.paramsSound) ∧
      (s.tablesSound → t.tablesSound)

/-- Every step keeps the extents of the record table apart, in one band each and under ids of their own. -/
def Obligations.ExtentsStaySound : Prop :=
  ∀ s t : State, extentsSound s.records → step s = .next t → extentsSound t.records

/-- Every step keeps the JSNs of the open page running on from its first JSN to the last JSN assigned. -/
def Obligations.JournalStaysSound : Prop :=
  ∀ s t : State, s.journalSound → step s = .next t → t.journalSound

/-- Every step leaves the judgements of its end made. Of SPIN_WANTED: while the dirty grains of a serving part are
below the high mark it is armed, and while they are at or above it with the spindle not SPINNING it is disarmed (R109).
Of a quiesce: where no job and no open write is left and its pass, if its target asks for one, has completed, the
durable JSN has not reached the last JSN assigned, and the emission of the entries left is asked for; otherwise the
quiesce would have ended (R178). A start that is owed a window by the arbitration of R110 still has its conditions (the
note of it is the model's, log 58). -/
def Obligations.JudgementsStayMade : Prop :=
  ∀ s t : State, s.calm = true ∧ s.quiesceCalm = true → step s = .next t →
    t.calm = true ∧ t.quiesceCalm = true

/-- Every step keeps the records, the jobs and the open writes coherent: a record is PROMOTING or WRITING_BACK exactly
while a job of that kind has it, each job in a window of its own (R88, R115); the write table has its 32 handles (R62),
and the open-write count of a record is the number of the writes that list it (R8); absorb-open marks the records that
an open write created, and they stay DIRTY (R23, R107); no job and no open write outlives SERVING (R77, R139). -/
def Obligations.MapStaysSound : Prop :=
  ∀ s t : State, s.mapSound → step s = .next t → t.mapSound

/-- Every step keeps the candidate list in the order of R92, in its two parts, with 64 entries at most and no record
twice, and each record listed TRACKED and in the part that its pinned flag gives; outside SERVING it is empty (R113,
R114). The order of arrival that breaks ties is the model's note of the order of entering. -/
def Obligations.CandidatesStaySound : Prop :=
  ∀ s t : State, s.mapSound → s.candidatesSound → step s = .next t → t.candidatesSound

/-- Every step keeps each slot below SLOT_COUNT in exactly one place: the free pool, the quarantine, the retired set,
the slot list of a record, or the reservation of a job; and a record on flash with a slot for each grain (R4, R78). In a
replay, where the pool is not built yet, every step keeps each slot in one record at most, and the retired set rebuilt
so far ascending without duplicates (section 4.1, R168). A page read in a replay may bring a record that names one slot
twice, which no rule refuses: the step that reads it is left out. -/
def Obligations.SlotsStayPlaced : Prop :=
  ∀ s t : State, s.mapSound → s.slotsPlaced → step s = .next t →
    (∀ r, s.recovery.phase = .replay r → ∀ x ∈ t.records, x.slots.Nodup) → t.slotsPlaced

/-! ## Layouts -/

/-- Every request whose fields fit its layout is read back from its frame, and so is its tag; and the frame is read
back from its bytes, header first (R202). Every journal page whose fields and entries fit their layouts has an image of
4,096 bytes, from which it is read back. -/
def Obligations.LayoutsReadBack : Prop :=
  (∀ (r : Request) (tag : Nat), r.fits = true → tag < 16 →
    frameRequest (requestFrame r tag) = some r ∧ frameTag (requestFrame r tag) = tag ∧
      Frame.read (Frame.bytes (requestFrame r tag)) = some (requestFrame r tag) ∧
      frameWhole (Frame.bytes (requestFrame r tag)) = true) ∧
  ∀ p : Page, p.fits = true → p.bytes.length = 4096 ∧ Page.read p.bytes = some p

/-! ## Links, notices and parameters -/

/-- A frame that reaches a link. Bytes that spell no whole frame change nothing (log 36), nor does a frame that comes
while RSTn is low or the part is held in reset (R186; log 10). A part that is awake discards it with LINK_OVERRUN while
8 requests stand on the list, and otherwise accepts it at the tail with its tag mark (R190, R191). A frame that the
link checks refuse is answered in its turn: at once when no accepted request stands before it, by the first check that
fails (R192); that the part answers it without a command is the model's choice (log 2). In RETAIN and in HIBERNATE the
frame start first wakes the part, from RETAIN into RUN with its head check made (R180), from HIBERNATE by a cold start
(R181), and the frame, or the request that it carries, is then served as by the part so woken (log 12). -/
def Obligations.FrameArrives : Prop :=
  (∀ (s : State) (l : Link) (bytes : List Byte), frameWhole bytes = false → exec (.frameArrival l bytes) s = .next s) ∧
  (∀ (s : State) (l : Link) (bytes : List Byte), s.supply.rstn ≠ .high ∨ s.supply.heldLowest ≠ none →
    exec (.frameArrival l bytes) s = .next s) ∧
  (∀ (s : State) (l : Link) (bytes : List Byte) (f : Frame), s.awake = true → s.supply.rstn = .high →
    Frame.read bytes = some f → (∀ a, s.nextRequest l = some a → linkRefusal l a = none) →
    let duplicate := decide (frameTag f ∈ (s.port l).tagsInUse)
    let a : Accepted := { frame := f, duplicate := duplicate, standing := .accepted }
    let joined := s.setPort l { s.port l with accepted := (s.port l).accepted ++ [a] }
    let refused := fun (c : ReplyCode) =>
      s.send { link := l, tag := frameTag f, kind := f.kind, outcome := c, body := .empty }
    (8 ≤ (s.port l).accepted.length →
      exec (.frameArrival l bytes) s = .next (s.raise l (.linkOverrun f.kind (frameTag f)))) ∧
    ((s.port l).accepted.length < 8 →
      exec (.frameArrival l bytes) s = .next
        (if s.nextRequest l ≠ none then joined
         else if duplicate = true then refused .tagInUse
         else if kindLinks f.kind.toNat = [] then refused .unknown
         else if l ∉ kindLinks f.kind.toNat then refused .notPermitted
         else if frameRequest f = none then refused .range
         else joined))) ∧
  ∀ (s : State) (l : Link) (i : Instr), s.supply.rstn = .high → s.supply.heldLowest = none →
    (∃ bytes, i = .frameArrival l bytes ∧ frameWhole bytes = true) ∨
      (s.nextRequest l = none ∧ ∃ tag r, i.request = some (l, tag, r)) →
    (s.supply.mode = .retain → ∃ u, exec i s = exec i u ∧ s.changesOnly u [.supply, .plan] ∧
      u.supply = { s.supply with mode := .run, memory := .refreshed } ∧
      u.plan = { s.plan with candidates := u.plan.candidates } ∧
      s.headChecked s.params.tPromote s.heat.epoch u.plan.candidates) ∧
    (s.supply.mode = .hibernate → exec i s = exec i
      { State.reset with
        pending := s.pending, sent := s.sent, now := s.now
        supply := { Supply.reset with
          cause := .hibernateWake, brownOuts := s.supply.brownOuts, corrected := s.supply.corrected
          pfwnLow := s.supply.pfwnLow, vdd := s.supply.vdd } })

/-- A notice raised on a link becomes pending there with its detail, in place of one of its kind; other kinds and the
other links keep their notices (R195). The line is asserted exactly when some notice pending is unmasked; while RSTn is
low it keeps its level, as it does in a part held in reset, whose lines are released (R196; log 10). GET_NOTICE returns
the unmasked notice of highest priority, which leaves the set, or NONE, and with it the kinds still pending, masked and
unmasked alike; the line is judged after it (R196, R197). -/
def Obligations.NoticesPendAndReturn : Prop :=
  (∀ (s : State) (l : Link) (n : Notice), (s.port l).notices.Pairwise (fun a b => a.code < b.code) →
    let t := s.raise l n
    (∀ m, m ∈ (t.port l).notices ↔ m = n ∨ (m ∈ (s.port l).notices ∧ m.code ≠ n.code)) ∧
    (t.port l).notices.Pairwise (fun a b => a.code < b.code) ∧
    ((t.port l).attention = true ↔
      if s.supply.rstn = .high ∧ s.supply.heldLowest = none then
        ∃ m ∈ (t.port l).notices, (s.port l).mask.getLsbD m.code = false
      else (s.port l).attention = true) ∧
    (t.port l).accepted = (s.port l).accepted ∧ (t.port l).mask = (s.port l).mask ∧
    (∀ m, m ≠ l → t.port m = s.port m) ∧ s.changesOnly t [.ports]) ∧
  ∀ (s : State) (l : Link) (tag : Nat), s.ready l tag = true → tag < 16 → s.steady = true → s.calm = true →
    (s.port l).notices.Pairwise (fun a b => a.code < b.code) →
    let p := s.port l
    let flagged := fun (still : NoticeFlags) (ns : List Notice) =>
      ∀ c, c < 16 → still.getLsbD c = ns.any (fun n => n.code = c)
    ((∀ n ∈ p.notices, p.mask.getLsbD n.code = true) →
      ∃ still, exec (.getNotice l tag) s = .next (s.send (replyTo .getNotice l tag .ok (.notice none still))) ∧
        flagged still p.notices) ∧
    ∀ before n after, p.notices = before ++ n :: after → (∀ m ∈ before, p.mask.getLsbD m.code = true) →
      p.mask.getLsbD n.code = false →
      ∃ still, flagged still (before ++ after) ∧
        exec (.getNotice l tag) s = .next
          ((s.setPort l
            { p with
              notices := before ++ after, attention := (before ++ after).any (fun m => !p.mask.getLsbD m.code) }).send
            (replyTo .getNotice l tag .ok (.notice (some n) still)))

/-- The requests that the service-state table refuses, each with its answer and nothing else changed (R162); a request
of another link's kind is answered NOT_PERMITTED (R192). -/
def Obligations.ServiceTableRefuses : Prop :=
  ∀ (s : State) (i : Instr) (l : Link) (tag : Nat) (r : Request),
    i.request = some (l, tag, r) → s.ready l tag = true → tag < 16 → r.fits = true → s.steady = true →
    let answered := fun (c : ReplyCode) => exec i s = .next (s.send (replyTo r l tag c .empty))
    if l ∉ kindLinks (requestKind r) then answered .notPermitted
    else
      match r with
      | .status | .getNotice | .setParam _ _ | .getParam _ => True
      | .attach _ => s.recovery.service ≠ .waiting → s.calm = true → answered .notPermitted
      | .format _ _ =>
        (s.recovery.service = .waiting → answered .notReady) ∧
        (s.recovery.service ≠ .waiting → s.recovery.service ≠ .blank → s.calm = true → answered .notPermitted)
      | .fetch | .finish _ _ _ _ | .spindle _ => s.recovery.service = .waiting → answered .notReady
      | .retire _ | .locate _ _ | .writeOpen _ _ | .writeClose _ _ _ | .discard _ _ | .pin _ _ | .unpin _ _ | .sync
      | .power _ | .reset => s.recovery.service ≠ .serving → answered .notReady

/-- GET_PARAM answers UNKNOWN for a name not in the table and otherwise OK with the value stored, on any link; for
NOTICE_MASK the link's own mask. Reading changes nothing (R200). SET_PARAM answers UNKNOWN, NOT_PERMITTED, or OK with
the value stored: the value sent clamped to the parameter's range, DIRTY_LOW to DIRTY_HIGH - 5 (R106), RESERVE_SLOTS to
a quarter of a known SLOT_COUNT (R87; when it is known, log 26), NOTICE_MASK to the kinds the link carries (R199). The
other parameters keep their values, but that DIRTY_HIGH clamps DIRTY_LOW. The words that its reads correct are counted,
the command bringing their number (R189; log 7). -/
def Obligations.ParamsReadAndStore : Prop :=
  (∀ (s : State) (l : Link) (tag code : Nat), s.ready l tag = true → tag < 16 → code < 256 → s.steady = true →
    s.calm = true →
    exec (.getParam l tag code) s = .next (s.send
      (match Param.ofCode code with
       | none => replyTo (.getParam code) l tag .unknown .empty
       | some .noticeMask => replyTo (.getParam code) l tag .ok (.value (s.port l).mask.toNat)
       | some p => replyTo (.getParam code) l tag .ok (.value (s.paramValue l p))))) ∧
  ∀ (s : State) (l : Link) (tag code value corrected : Nat), s.ready l tag = true → tag < 16 → code < 256 →
    value < 2 ^ 32 → s.steady = true → s.calm = true → (Param.ofCode code = some .warnLevel → s.enduring = true) →
    (Param.ofCode code = some .writeTimeout → s.supply.mode = .run ∨ s.supply.mode = .doze) →
    let r := Request.setParam code value
    let refused := fun (c : ReplyCode) =>
      exec (.setParam l tag code value corrected) s =
        .next ((s.send (replyTo r l tag c .empty)).afterReads corrected)
    match Param.ofCode code with
    | none => refused .unknown
    | some p =>
      let v :=
        match p with
        | .noticeMask => (BitVec.ofNat 16 value &&& carried l).toNat
        | .dirtyLow => min (max 5 (min 90 value)) (s.params.dirtyHigh - 5)
        | .reserveSlots =>
          if s.recovery.service = .serving ∨ s.recovery.service = .formatting then
            min (min 65536 value) (s.map.slotCount / 4)
          else min 65536 value
        | p => max p.range.1 (min p.range.2 value)
      if p ≠ .noticeMask ∧ p.owner ≠ some l then refused .notPermitted
      else
        ∃ t : State, exec (.setParam l tag code value corrected) s = .next (t.afterReads corrected) ∧
          t.sent = s.sent ++ [replyTo r l tag .ok (.value v)] ∧ t.paramValue l p = v ∧
          (∀ q m, (q ≠ p ∨ (q = .noticeMask ∧ m ≠ l)) → ¬(p = .dirtyHigh ∧ q = .dirtyLow) →
            t.paramValue m q = s.paramValue m q) ∧
          (p = .dirtyHigh → t.params.dirtyLow = min s.params.dirtyLow (v - 5)) ∧
          ∀ m, (t.port m).accepted = (s.port m).accepted

/-- Effects made as a SET_PARAM is taken (R199). BUDGET_CAP clamps the budget level (R50); NOTICE_MASK judges the line
(R196); EPOCH_SECONDS makes a tick that is due, in SERVING alone (R32; log 27); WRITE_TIMEOUT makes the timeouts that
are due, each write closed with WRITE_ORPHAN, or held where the journal cannot take its entries (R67, R68), while a
timeout already held leaves its handle as it was, also where the new value is above the age of its write (log 57);
T_PROMOTE has the head check made (R95); DIRTY_HIGH has the arming of SPIN_WANTED judged where the high mark is known
(R109; log 25); WARN_LEVEL starts the warning (R182), or judges the clearing filter of an active one; JOURNAL_LINGER
ends a linger timer that is due, and the page is emitted, its image made or, where none can be, asked for, while a timer
not due runs on (R147). Any other parameter changes nothing but its value. The words that its reads correct are
counted, the command bringing their number (R189; log 7). -/
def Obligations.SetParamActs : Prop :=
  ∀ (s : State) (l : Link) (tag code value corrected : Nat), s.ready l tag = true → tag < 16 → code < 256 →
    value < 2 ^ 32 → s.steady = true → s.calm = true →
    ∃ t : State, exec (.setParam l tag code value corrected) s = .next (t.afterReads corrected) ∧
      (Param.ofCode code = some .budgetCap → l = .fLink →
        t.heat = { s.heat with budget := min s.heat.budget t.params.budgetCap } ∧
        s.changesOnly t [.sent, .params, .heat]) ∧
      (Param.ofCode code = some .noticeMask →
        ((t.port l).attention = true ↔ ∃ n ∈ (s.port l).notices, (t.port l).mask.getLsbD n.code = false) ∧
        (t.port l).notices = (s.port l).notices ∧ s.changesOnly t [.sent, .ports] ∧
        ∀ m, m ≠ l → t.port m = s.port m) ∧
      (Param.ofCode code = some .epochSeconds → l = .iLink →
        if s.serving = true ∧ 1000 * t.params.epochSeconds ≤ s.heat.timer then
          t.heat = { s.heat with
            epoch := min 4294967295 (s.heat.epoch + 1), timer := 0
            budget := min s.params.budgetCap (s.heat.budget + s.params.budgetRate) } ∧
          t.plan.cursor = some (s.plan.cursor.getD 0) ∧ t.records = s.records ∧
          s.changesOnly t [.sent, .params, .map, .heat, .plan]
        else s.changesOnly t [.sent, .params]) ∧
      (Param.ofCode code = some .writeTimeout → l = .iLink → s.supply.mode = .run ∨ s.supply.mode = .doze →
        s.writes.handles.length = 32 →
        let closed := fun (h : Nat) => t.writes.get h = { gen := ((s.writes.get h).gen + 1) % 16, write := none }
        (∀ h w, h < 32 → s.openWrite h = some w →
          if w.held = true ∨ s.now < w.opened + t.params.writeTimeout then t.writes.get h = s.writes.get h
          else
            (s.createdBy w = [] → closed h) ∧
            (closed h ∨ t.writes.get h = { s.writes.get h with write := some { w with held := true } })) ∧
        (∀ h w, h < 32 → s.openWrite h = some w → closed h → ∃ k x, k < 32 ∧ s.openWrite k = some x ∧ closed k ∧
          Notice.writeOrphan k (s.writes.get k).gen x.first x.count ∈ (t.port .iLink).notices) ∧
        (∀ h, h < 32 → s.openWrite h = none → t.writes.get h = s.writes.get h) ∧
        s.changesOnly t [.sent, .ports, .params, .map, .writes, .pool, .plan, .work, .jrn]) ∧
      (Param.ofCode code = some .tPromote → l = .iLink →
        t.plan = { s.plan with candidates := t.plan.candidates } ∧
        s.headChecked t.params.tPromote s.heat.epoch t.plan.candidates ∧
        s.changesOnly t [.sent, .params, .plan]) ∧
      (Param.ofCode code = some .dirtyHigh → l = .iLink →
        let high := (s.map.slotCount - s.pool.retired.length) * t.params.dirtyHigh / 100
        t.plan = { s.plan with armed :=
          if s.marksKnown = false then s.plan.armed
          else if s.dirtyGrains < high then true
          else s.plan.armed && decide (s.work.spindle = .spinning) } ∧
        (s.marksKnown = true → s.plan.armed = true → t.plan.armed = false →
          Notice.spinWanted .dirtyHigh ∈ (t.port .dLink).notices) ∧
        (t.plan.armed = s.plan.armed → t.ports = s.ports) ∧ s.changesOnly t [.sent, .ports, .params, .plan]) ∧
      (Param.ofCode code = some .warnLevel → l = .iLink →
        let threshold := 4400 + 100 * t.params.warnLevel
        let source := s.supply.pfwnLow || decide (s.supply.vdd < threshold)
        (s.supply.warning = false → source = true →
          t.supply.warning = true ∧ t.supply.filter = none ∧
          ∀ m, Notice.powerWarnStart s.supply.pfwnLow (decide (s.supply.vdd < threshold)) ∈ (t.port m).notices) ∧
        (s.supply.warning = false → source = false → s.changesOnly t [.sent, .params]) ∧
        (s.supply.warning = true →
          t.supply = { s.supply with filter :=
            if s.supply.pfwnLow = false ∧ threshold + 100 ≤ s.supply.vdd then some (s.supply.filter.getD 0)
            else none } ∧
          s.changesOnly t [.sent, .params, .supply])) ∧
      (Param.ofCode code = some .journalLinger → l = .iLink →
        (∀ p j, t.jrn.page = some p → p.linger = some j → s.now < j + t.params.journalLinger) ∧
        ((∀ p j, s.jrn.page = some p → p.linger = some j → s.now < j + t.params.journalLinger) →
          t.jrn = s.jrn ∧ s.changesOnly t [.sent, .params]) ∧
        (∀ p j, s.jrn.page = some p → p.linger = some j → j + t.params.journalLinger ≤ s.now → ∃ q,
          t.jrn.page = some q ∧ q.linger = none ∧ q.entries = p.entries ∧
          (0 < p.unemitted → s.jrn.fault = none →
            (q.unemitted = 0 ∧ ∃ i ∈ t.jrn.images, i.page.psn = s.jrn.head ∧ i.page.entries = p.entries ∧
              i.page.firstJsn = p.firstJsn) ∨
            (3 ≤ s.jrn.images.length ∧ t.jrn.pendingEmission ≠ none)) ∧
          s.changesOnly t [.sent, .ports, .params, .work, .jrn])) ∧
      (∀ p, Param.ofCode code = some p →
        p ∈ [Param.hysteresis, .wFlashRead, .wPlatterRead, .wWakeRead, .wWrite, .streamMin, .pinPercent, .dirtyLow,
          .issueDepthD, .issueDepthF, .budgetRate, .reserveSlots] → s.changesOnly t [.sent, .params])

/-- STATUS reports the snapshot of the moment it is taken (R201); the words its reads correct count after it (R189; the
order is the model's, log 7). -/
def Obligations.StatusReports : Prop :=
  ∀ (s : State) (l : Link) (tag corrected : Nat), s.ready l tag = true → tag < 16 → s.steady = true →
    s.calm = true →
    let shot : Snapshot :=
      { service := s.recovery.service, mode := s.supply.mode, warning := s.supply.warning
        journalFault := s.jrn.fault.isSome, spindle := s.work.spindle
        tracked := s.records.countP (fun r => r.state = .tracked)
        promoting := s.records.countP (fun r => r.state = .promoting)
        mirrored := s.records.countP (fun r => r.state = .mirrored)
        dirty := s.records.countP (fun r => r.state = .dirty)
        writingBack := s.records.countP (fun r => r.state = .writingBack)
        free := s.pool.free.length, quarantined := s.pool.quarantine.length, retired := s.pool.retired.length
        dirtyGrains := s.dirtyGrains, pinnedGrains := s.pinnedGrains, budget := s.heat.budget, epoch := s.heat.epoch
        head := s.jrn.head, tail := s.jrn.tail, lastJsn := s.jrn.lastJsn, durableJsn := s.jrn.durableJsn
        jobs := s.work.jobs.length, issuedD := s.work.dIssued.length, issuedF := s.work.fIssued.length
        openWrites := s.writes.handles.countP (fun h => h.write.isSome), untracked := s.map.untracked
        corrected := s.supply.corrected, cause := s.supply.cause, brownOuts := s.supply.brownOuts
        slotCount := s.map.slotCount, diskGrains := s.map.diskGrains, ringPages := s.recovery.ringPages }
    exec (.status l tag corrected) s = .next
      ((s.setSupply { s.supply with corrected := min 65535 (s.supply.corrected + corrected) }).send
        (replyTo .status l tag .ok (.snapshot shot)))

/-! ## Heat -/

/-- The current heat of a record: its stored heat halved once for each epoch of its age, at most 16 times; an E above C
gives age 0, and an age of 16 or more gives 0 (R35). -/
def Obligations.CurrentHeatDecays : Prop :=
  ∀ (r : Rec) (c : Nat), r.heat ≤ 65535 →
    (c ≤ r.epoch → r.currentHeat c = r.heat) ∧ (r.epoch + 16 ≤ c → r.currentHeat c = 0) ∧
    (∀ n, n ≤ 16 → c = r.epoch + n → r.currentHeat c = r.heat / 2 ^ n) ∧
    (∀ w, let t := r.touched w c
      t.heat = min 65535 (r.currentHeat c + w) ∧ t.epoch = c ∧ t.currentHeat c = t.heat ∧
      t = { r with heat := t.heat, epoch := t.epoch })

/-- The 64 reciprocals are floor (4,096 / len), at most 4,095 (R39). The density of a record is floor (h * Q(len) /
64); it is h for 64 grains, and 4,193,216 at most, which a 1-grain record of heat 65,535 has (R40). -/
def Obligations.DensityFollows : Prop :=
  ((∀ len, 1 ≤ len → len ≤ 64 → reciprocal len = min (4096 / len) 4095) ∧
   (List.range' 1 64).map reciprocal =
     [4095, 2048, 1365, 1024, 819, 682, 585, 512, 455, 409, 372, 341, 315, 292, 273, 256] ++
     [240, 227, 215, 204, 195, 186, 178, 170, 163, 157, 151, 146, 141, 136, 132, 128] ++
     [124, 120, 117, 113, 110, 107, 105, 102, 99, 97, 95, 93, 91, 89, 87, 85] ++
     [83, 81, 80, 78, 77, 75, 74, 73, 71, 70, 69, 68, 67, 66, 65, 64]) ∧
  (∀ (r : Rec) (c : Nat), 1 ≤ r.len → r.len ≤ 64 → r.heat ≤ 65535 →
     r.density c = r.currentHeat c * min (4096 / r.len) 4095 / 64 ∧
     r.currentHeat c * reciprocal r.len ≤ 268365825 ∧ r.density c ≤ 4193216 ∧
     (r.len = 64 → r.density c = r.currentHeat c) ∧ (r.len = 1 → r.currentHeat c = 65535 → r.density c = 4193216))

/-! ## Serving -/

/-- LOCATE, WRITE_OPEN, DISCARD, PIN and UNPIN of a range that admission does not pass are answered RANGE (R52); under
the power-fail warning WRITE_OPEN, DISCARD, PIN and UNPIN are answered HOLD (R56, R69, R72, R74), and a WRITE_OPEN that
finds 32 open writes FULL (R56). Nothing changes but the count of the words that the reads of the request
correct, which the model counts in a request refused too (R189; log 7). -/
def Obligations.PlacementRefusals : Prop :=
  ∀ (s : State) (tag first count corrected : Nat), s.serves .iLink tag = true → first < 2 ^ 32 → count < 256 →
    let counted := s.afterReads corrected
    let answers := fun (u : State) (i : Instr) (r : Request) (c : ReplyCode) =>
      exec i s = .next (u.send (replyTo r .iLink tag c .empty))
    (s.admits first count = false →
      answers counted (.locate tag first count corrected) (.locate first count) .range ∧
      answers counted (.writeOpen tag first count corrected) (.writeOpen first count) .range ∧
      answers counted (.discard tag first count corrected) (.discard first count) .range ∧
      answers counted (.pin tag first count corrected) (.pin first count) .range ∧
      answers counted (.unpin tag first count corrected) (.unpin first count) .range) ∧
    (s.admits first count = true → s.supply.warning = true →
      answers counted (.writeOpen tag first count corrected) (.writeOpen first count) .hold ∧
      answers counted (.discard tag first count corrected) (.discard first count) .hold ∧
      answers counted (.pin tag first count corrected) (.pin first count) .hold ∧
      answers counted (.unpin tag first count corrected) (.unpin first count) .hold) ∧
    (s.admits first count = true → s.supply.warning = false → (∀ h, h < 32 → (s.openWrite h).isSome) →
      answers counted (.writeOpen tag first count corrected) (.writeOpen first count) .full)

/-- A run list covers its range once in ascending grain order. Each run shares a place: a FLASH run lies in one record
and carries the slots of its grains, a PLATTER run carries the spin-wait flag unless the spindle is SPINNING; a new run
begins only where the place or the record changes (R54). -/
def Obligations.RunListCovers : Prop :=
  ∀ (s : State) (made : List Nat) (first count : Nat), extentsSound s.records →
    let rs := s.runList made first count
    rs.flatMap (fun r => List.range' r.first r.count) = List.range' first count ∧
    (∀ r ∈ rs, 1 ≤ r.count ∧
      if r.flash = true then
        r.spinWait = false ∧
          ∃ x ∈ s.records, x.onFlash = true ∧ x.first ≤ r.first ∧ r.first + r.count ≤ x.stop ∧
            r.slots = (List.range' (r.first - x.first) r.count).map (fun i => x.slots.getD i 0) ∧
            (r.absorbed = true ↔ x.id ∈ made)
      else
        r.slots = [] ∧ r.absorbed = false ∧ (r.spinWait = true ↔ s.work.spindle ≠ .spinning) ∧
          ∀ g, inRange r.first r.count g → s.flashAt g = none) ∧
    ∀ before a b after, rs = before ++ a :: b :: after →
      s.flashAt (b.first - 1) ≠ s.flashAt b.first

/-- LOCATE answers OK with the run list of its range as its own changes leave the map. It changes the stream table,
and, unless it is streamed, the map and the candidate list; it places no entry and changes no job (R55). The words that
its reads correct are counted (R189; log 7). A request continues the run of the entry that holds its first grain as
next grain: the entry moves to the front with its run raised, and the request is streamed when the new run is at least
STREAM_MIN (R44). Otherwise it begins a run, is not streamed, and the least recent of eight entries gives way (R45). An
entry that holds the same next grain is emptied. -/
def Obligations.LocateReplies : Prop :=
  ∀ (s : State) (tag first count corrected : Nat), s.serves .iLink tag = true → s.admits first count = true →
    ∃ t, exec (.locate tag first count corrected) s = .next t ∧
      t.sent = s.sent ++ [replyTo (.locate first count) .iLink tag .ok (.runs (t.runList [] first count))] ∧
      s.changesOnly t [.sent, .map, .heat, .plan, .supply] ∧ t.supply = (s.afterReads corrected).supply ∧
      t.heat = { s.heat with stream := t.heat.stream } ∧ s.followsStream t first count ∧
      t.plan = { s.plan with candidates := t.plan.candidates } ∧
      (s.isStreamed first count = true → t.map = s.map ∧ t.plan = s.plan)

/-- A LOCATE that is not streamed covers the gaps of its range, the maximal runs of untracked grains within a band. All
of a gap goes to the record that ends just before it, where that one is TRACKED, unpinned and in the same band;
otherwise to the record that begins just after it, where that one is; and otherwise to a new TRACKED record of the gap's
extent, or, with every record place taken, it stays untracked, and the untracked-touch count then rises. No other grain
changes its record (R15, R17). Then it touches every record that covers a grain of its range: the current heat is stored
with the weight of the record's state and the spindle's state added, and E becomes C (R36 to R38). Every other record is
as the gaps left it. -/
def Obligations.LocateCoversAndTouches : Prop :=
  ∀ (s : State) (tag first count corrected : Nat), s.serves .iLink tag = true → s.admits first count = true →
    extentsSound s.records → s.isStreamed first count = false →
    let gapGrain := fun (g : Nat) => s.recordAt g = none ∧ inRange first count g
    let grows := fun (g : Nat) (r : Rec) => s.recordAt g = some r ∧ r.state = .tracked ∧ r.pinned = false
    ∃ t, exec (.locate tag first count corrected) s = .next t ∧
      (∀ g r, s.recordAt g = some r → ∃ r', t.recordAt g = some r' ∧ r'.id = r.id ∧ r'.state = r.state ∧
        r'.slots = r.slots ∧ r'.pinned = r.pinned ∧ r'.dirty = r.dirty ∧
        (r.state ≠ .tracked ∨ r.pinned = true → r'.first = r.first ∧ r'.len = r.len)) ∧
      (∀ g, s.recordAt g = none → ¬inRange first count g → t.recordAt g = none) ∧
      (∀ g, s.recordAt g = none → inRange first count g →
        match t.recordAt g with
        | none => 16384 ≤ t.records.length ∧ min 4294967295 (s.map.untracked + 1) ≤ t.map.untracked
        | some r' => r'.state = .tracked ∧ r'.pinned = false) ∧
      (∀ a b, a < b → (∀ x, a ≤ x → x < b → gapGrain x ∧ x / 64 = a / 64) → ¬(gapGrain b ∧ b / 64 = a / 64) →
        (∀ x, x + 1 = a → ¬(gapGrain x ∧ x / 64 = a / 64)) →
        let before := fun (r : Rec) => ∃ x, x + 1 = a ∧ grows x r ∧ x / 64 = a / 64
        let behind := fun (r : Rec) => grows b r ∧ b / 64 = a / 64
        let joins := fun (r : Rec) => ∀ x, a ≤ x → x < b → ∃ r', t.recordAt x = some r' ∧ r'.id = r.id
        (∀ r, before r → joins r) ∧ ((∀ r, ¬before r) → ∀ r, behind r → joins r) ∧
        ((∀ r, ¬before r) → (∀ r, ¬behind r) →
          (∀ x, a ≤ x → x < b → t.recordAt x = none) ∨
            ∃ r' ∈ t.records, r'.first = a ∧ r'.len = b - a ∧ ∀ y ∈ s.records, y.id ≠ r'.id)) ∧
      t.records = (s.coverGaps first count).records.map (fun r =>
        if r.met first count then
          let w :=
            if r.onFlash = true then s.params.wFlashRead
            else if s.work.spindle = .spinning then s.params.wPlatterRead
            else s.params.wWakeRead
          { r with heat := min 65535 (r.currentHeat s.heat.epoch + w), epoch := s.heat.epoch }
        else r)

/-- A WRITE_OPEN that meets a PROMOTING record with an issued order is answered RETRY and sets the cancel flags of the
issued jobs it meets (R57). Otherwise, with the spindle not SPINNING, it is answered SPIN_NEEDED where the grains to be
absorbed outnumber the free pool, NO_SLOTS, or else where the record places do not suffice, NO_RECORDS, and SPIN_WANTED
is raised on the D-link (R56, R60): the places that are free, and those of the TRACKED records that lie wholly in the
range, fall short of a record for each run to be absorbed and for each TRACKED record that the range cuts in two (R21).
Otherwise, where its routing has entries to place, it is answered HOLD in JOURNAL_FAULT, and RETRY while the journal
cannot take them (R56). The map stays as it was, and no job is cancelled; the corrected words of the refused request
are counted (log 7). -/
def Obligations.WriteOpenRefusals : Prop :=
  ∀ (s : State) (tag first count corrected : Nat), s.serves .iLink tag = true → s.admits first count = true →
    s.supply.warning = false → s.writes.freeHandle ≠ none → extentsSound s.records →
    let r := Request.writeOpen first count
    let issued := (s.promotionsMet first count).filter (fun j => s.jobIssued j)
    let u := s.cancelJobs (s.promotionsMet first count)
    let absorbed := fun (g : Nat) => (u.recordAt g).all (fun x => x.state = .tracked)
    let needed := (List.range' first count).countP absorbed
    let runs := (List.range' first count).countP (fun g =>
      absorbed g && (decide (g = first) || decide (g % 64 = 0) || !absorbed (g - 1)))
    let pieces := u.records.countP (fun x =>
      decide (x.state = .tracked) && decide (x.first < first) && decide (first + count < x.first + x.len))
    let covered := u.records.countP (fun x =>
      decide (x.state = .tracked) && decide (first ≤ x.first) && decide (x.first + x.len ≤ first + count))
    let short := 16384 - u.records.length + covered < runs + pieces
    let refused := fun (why : SpinReason) =>
      exec (.writeOpen tag first count corrected) s = .next
        (((s.afterReads corrected).raise .dLink (.spinWanted why)).send
          (replyTo r .iLink tag .spinNeeded (.reason why)))
    (issued ≠ [] →
      exec (.writeOpen tag first count corrected) s = .next
        (((s.afterReads corrected).setWork
          { s.work with jobs := s.work.jobs.map (fun j =>
            if j.id ∈ issued.map (fun x => x.id) then { j with cancel := true } else j) }).send
          (replyTo r .iLink tag .retry .empty))) ∧
    (issued = [] → s.work.spindle ≠ .spinning →
      (u.pool.free.length < needed → refused .noSlots) ∧
      (needed ≤ u.pool.free.length → short → refused .noRecords)) ∧
    (issued = [] →
      let change :=
        u.routeChange first count (if s.work.spindle = .spinning then [] else u.absorbRuns first count)
      (s.work.spindle = .spinning ∨
        (needed ≤ u.pool.free.length ∧ ¬short)) →
      change.entries ≠ [] →
      (s.jrn.fault.isSome → exec (.writeOpen tag first count corrected) s = .next
        ((s.afterReads corrected).send (replyTo r .iLink tag .hold .empty))) ∧
      (s.jrn.fault = none → change.fits = false → ∃ t, exec (.writeOpen tag first count corrected) s = .next t ∧
        t.sent = s.sent ++ [replyTo r .iLink tag .retry .empty] ∧ t.jrn.lastJsn = s.jrn.lastJsn ∧ s.keepsLists t ∧
        t.work.jobs = s.work.jobs ∧ t.supply = (s.afterReads corrected).supply ∧
        s.changesOnly t [.sent, .ports, .work, .jrn, .supply]))

/-- A WRITE_OPEN that absorbs nothing, since the spindle is SPINNING or every grain lies on flash, opens in the first
free handle upward from the search point, which becomes it (R62). Each record that it meets is routed through: its
grains on flash join the dirty mask, and in WRITING_BACK the rewrite mask, a MIRRORED record becoming DIRTY (R20); it
is touched with W_WRITE unless the request is streamed (R37); its open-write count rises (R8). The stream table takes
the range in (R44 to R46). The budget falls by the grains routed to flash (R49). An EXTENT_SET is placed for each
record whose dirty mask changes, in ascending first grain, as its mark leaves it and before it is touched (R58, R61).
The commit JSN is that of the last entry placed, and 0 with no grain on flash (R62). The words that its reads correct
are counted, the command bringing their number (R189; log 7). -/
def Obligations.WriteOpenRoutes : Prop :=
  ∀ (s : State) (tag first count corrected n : Nat), s.serves .iLink tag = true → s.admits first count = true →
    s.supply.warning = false → extentsSound s.records → s.promotionsMet first count = [] →
    (s.work.spindle = .spinning ∨ ∀ g, inRange first count g → (s.flashAt g).isSome) →
    (s.routeChange first count []).fits = true → s.jrn.lastJsn ≤ 4294967295 → s.writes.handles.length = 32 →
    n < 32 → s.openWrite ((s.writes.search + 1 + n) % 32) = none →
    (∀ m, m < n → s.openWrite ((s.writes.search + 1 + m) % 32) ≠ none) →
    let h := (s.writes.search + 1 + n) % 32
    let gen := (s.writes.get h).gen
    let flash := (List.range' first count).countP (fun g => (s.flashAt g).isSome)
    let streamed := s.isStreamed first count
    ∃ t, exec (.writeOpen tag first count corrected) s = .next t ∧
      t.sent = s.sent ++ [replyTo (.writeOpen first count) .iLink tag .ok (.opened h gen (t.runList [] first count))] ∧
      t.writes.search = h ∧
      t.writes.handles = s.writes.handles.set h
        { gen := gen
          write := some
            { first := first, count := count, opened := s.now
              listings := (t.recordsMeeting first count).map (fun r => ⟨r.id, false⟩)
              commitJsn := if flash = 0 then 0 else t.jrn.lastJsn, held := false } } ∧
      t.heat = { s.heat with stream := t.heat.stream, budget := s.heat.budget - flash } ∧
      s.followsStream t first count ∧ t.supply = (s.afterReads corrected).supply ∧
      t.records = (if streamed then s else s.coverGaps first count).records.map (fun r =>
        if r.met first count then
          { r.routed first count with
            heat := if streamed then r.heat else min 65535 (r.currentHeat s.heat.epoch + s.params.wWrite)
            epoch := if streamed then r.epoch else s.heat.epoch, openWrites := r.openWrites + 1 }
        else r) ∧
      s.journaled t ((s.records.filter (fun r =>
        r.met first count && decide ((r.routed first count).dirty ≠ r.dirty))).map (fun r =>
          .extentSet (r.routed first count).described)) ∧
      (∀ r ∈ s.records, r.met first count = true → r.state = .mirrored → r.id ∈ t.plan.dirtyList) ∧
      s.plan.dirtyList <+: t.plan.dirtyList ∧
      s.keepsLists t ∧ t.work.jobs = s.work.jobs ∧
      s.changesOnly t [.sent, .ports, .map, .heat, .writes, .plan, .work, .jrn, .supply]

/-- A WRITE_OPEN with the spindle not SPINNING absorbs the grains of its range that no record holds on flash: each lies
afterwards in a DIRTY record with absorb-open set, every grain dirty, and takes its slot from the head of the free pool
in grain order; every other grain keeps its place, and the grains that were on flash are marked dirty (R21, R22, R60,
R61). The budget falls by the whole range (R49), and the stream table takes the range in (R44 to R46). The write opens
in the free handle found, listing the records of its range, those made here marked, with the JSN of its last entry
(R62). Each of them counts one open write more (R8), and is touched with W_WRITE unless the request is streamed (R37).
Other open writes list what is left of the records they listed (R63). The entries stand in ascending first grain of the
records with slots and of the absorbed runs: for a record with slots whose dirty mask changes its EXTENT_SET; for a run
its ABSORB_OPEN, wholly dirty, with the stored heat of the hottest TRACKED record that it overlaps, or none with E = C
(R7), pinned where the run lies in one pinned record (R10), and then an EXTENT_SET for each piece that it leaves of a
pinned record (R22, R61). The words that its reads correct are counted, the command bringing their number (R189; log
7). -/
def Obligations.WriteOpenAbsorbs : Prop :=
  ∀ (s : State) (tag first count corrected : Nat), s.serves .iLink tag = true → s.admits first count = true →
    s.supply.warning = false → extentsSound s.records →
    (∀ r ∈ s.recordsMeeting first count, r.state ≠ .promoting) → s.work.spindle ≠ .spinning →
    let taken := (List.range' first count).filter (fun g => (s.flashAt g).isNone)
    let runs := s.absorbRuns first count
    let yields := fun (a : AbsorbRun) (r : Rec) => decide (r.state = .tracked) && r.met a.first a.count
    let isMade := fun (r : Rec) => r.absorbOpen && (r.first ∈ taken : Bool)
    let touched := fun (r : Rec) =>
      if s.isStreamed first count = true then (r.heat, r.epoch)
      else (min 65535 (r.currentHeat s.heat.epoch + s.params.wWrite), s.heat.epoch)
    let lists := fun (u : State) (w : OpenWrite) (g : Nat) =>
      (u.recordAt g).any (fun r => w.listings.any (fun x => x.record = r.id))
    taken.length ≤ s.pool.free.length → s.placesShort runs = false → (s.routeChange first count runs).fits = true →
    s.jrn.lastJsn ≤ 4294967295 → s.writes.handles.length = 32 →
    ∀ h, s.writes.freeHandle = some h →
    ∃ t, exec (.writeOpen tag first count corrected) s = .next t ∧
      t.sent = s.sent ++ [replyTo (.writeOpen first count) .iLink tag .ok
        (.opened h (s.writes.get h).gen
          (t.runList ((t.records.filter isMade).map (fun r => r.id)) first count))] ∧
      t.writes.search = h ∧
      t.writes.get h =
        { gen := (s.writes.get h).gen
          write := some
            { first := first, count := count, opened := s.now
              listings := (t.recordsMeeting first count).map (fun r => ⟨r.id, isMade r⟩)
              commitJsn := t.jrn.lastJsn, held := false } } ∧
      (∀ k, k ≠ h → (t.writes.get k).gen = (s.writes.get k).gen) ∧
      (∀ k w, k ≠ h → s.openWrite k = some w → ∃ v, t.openWrite k = some v ∧ v = { w with listings := v.listings } ∧
        ((∀ x ∈ w.listings, (s.recordOf x.record).isSome) → ∀ g, lists t v g = (decide (g ∉ taken) && lists s w g))) ∧
      taken.map t.slotAt = (s.pool.free.take taken.length).map some ∧ t.pool.free = s.pool.free.drop taken.length ∧
      (∀ g, inRange first count g → t.dirtyAt g = true) ∧
      (∀ g ∈ taken, ∃ r, t.recordAt g = some r ∧ r.state = .dirty ∧ r.absorbOpen = true ∧ r.openWrites = 1) ∧
      (∀ g, g ∉ taken → t.slotAt g = s.slotAt g ∧ (s.recordAt g = none → t.recordAt g = none) ∧
        ∀ r, s.recordAt g = some r → ∃ x, t.recordAt g = some x ∧ x.pinned = r.pinned ∧
          if r.onFlash = true ∧ r.met first count = true then
            x.openWrites = r.openWrites + 1 ∧ (x.heat, x.epoch) = touched r
          else x.openWrites = r.openWrites ∧ x.heat = r.heat ∧ x.epoch = r.epoch) ∧
      t.heat = { s.heat with stream := t.heat.stream, budget := s.heat.budget - count } ∧
      s.followsStream t first count ∧ t.supply = (s.afterReads corrected).supply ∧ t.work.jobs = s.work.jobs ∧
      (∃ source : AbsorbRun → Nat × Nat,
        (∀ a ∈ runs,
          ((∀ r ∈ s.records, ¬yields a r) → source a = (0, s.heat.epoch)) ∧
          ∀ r ∈ s.records, yields a r →
            ∃ x ∈ s.records, yields a x ∧ source a = (x.heat, x.epoch) ∧
              r.currentHeat s.heat.epoch ≤ x.currentHeat s.heat.epoch ∧
              (r.currentHeat s.heat.epoch = x.currentHeat s.heat.epoch → x.first ≤ r.first)) ∧
        (∀ a ∈ runs, ∀ x ∈ t.records, x.first = a.first →
          (x.heat, x.epoch) = touched { x with heat := (source a).1, epoch := (source a).2 }) ∧
        s.journaled t ((List.range' first count).flatMap (fun g =>
          match s.flashAt g with
          | some r =>
            if g = max r.first first ∧ (r.routed first count).dirty ≠ r.dirty then
              [.extentSet (r.routed first count).described]
            else []
          | none => (runs.filter (fun a => a.first = g)).flatMap (fun a =>
              .absorbOpen
                { first := a.first, len := a.count, state := .dirty, absorbOpen := true
                  pinned := s.records.any (fun r =>
                    yields a r && r.pinned && decide (r.first ≤ a.first) && decide (a.stop ≤ r.stop))
                  heat := (source a).1, epoch := (source a).2, dirty := maskRange 0 a.count
                  slots := (List.range' a.first a.count).map (fun x => (t.slotAt x).getD 0) } ::
              (s.records.filter (fun r => yields a r && r.pinned)).flatMap (fun r =>
                (if r.first < a.first then
                  [Entry.extentSet ({ r with len := a.first - r.first } : Rec).described] else []) ++
                (if a.stop < r.stop then
                  [Entry.extentSet ({ r with first := a.stop, len := r.stop - a.stop } : Rec).described]
                 else [])))))) ∧
      s.changesOnly t [.sent, .ports, .map, .heat, .writes, .pool, .plan, .work, .jrn, .supply]

/-! ## Closing, discarding, pinning, synchronizing -/

/-- WRITE_CLOSE answers RANGE for a field out of range, STALE for a handle that is free or of another generation, and,
where the write has absorbed records to commit or withdraw, HOLD in JOURNAL_FAULT and RETRY while the journal cannot
take the entries; the write stays open (R64). A DISCARD that meets a record with open writes is answered RETRY, and one
that meets a job with an issued order is answered RETRY and sets the cancel flags of the issued PROMOTE jobs it meets
(R69). DISCARD, PIN and UNPIN whose entries the journal cannot take change nothing: HOLD in JOURNAL_FAULT and RETRY
otherwise, though a page that only these entries would overrun is made full (R69, R72, R74, R145). The words that its
reads correct are counted, the command bringing their number (R189; log 7). -/
def Obligations.CloseAndDiscardRefusals : Prop :=
  (∀ (s : State) (tag h gen outcome corrected : Nat), s.serves .iLink tag = true → h < 256 → gen < 256 → outcome < 256 →
     let r := Request.writeClose h gen outcome
     let answers := fun (c : ReplyCode) =>
       exec (.writeClose tag h gen outcome corrected) s =
         .next ((s.send (replyTo r .iLink tag c .empty)).afterReads corrected)
     (31 < h ∨ 15 < gen ∨ 1 < outcome → answers .range) ∧
     (h ≤ 31 → gen ≤ 15 → outcome ≤ 1 → (s.openWrite h = none ∨ (s.writes.get h).gen ≠ gen) → answers .stale) ∧
     ∀ w, h ≤ 31 → gen ≤ 15 → outcome ≤ 1 → s.openWrite h = some w → (s.writes.get h).gen = gen →
       s.createdBy w ≠ [] →
       (s.jrn.fault.isSome → answers .hold) ∧
       (s.jrn.fault = none → (s.closeChange w (decide (outcome = 0))).fits = false →
         ∃ t, exec (.writeClose tag h gen outcome corrected) s = .next (t.afterReads corrected) ∧
           t.sent = s.sent ++ [replyTo r .iLink tag .retry .empty] ∧ s.keepsLists t ∧
           t.jrn.lastJsn = s.jrn.lastJsn ∧ s.changesOnly t [.sent, .ports, .work, .jrn])) ∧
  (∀ (s : State) (tag first count corrected : Nat), s.serves .iLink tag = true → s.admits first count = true →
     s.supply.warning = false →
     let answers := fun (u : State) =>
       exec (.discard tag first count corrected) s =
         .next ((u.send (replyTo (.discard first count) .iLink tag .retry .empty)).afterReads corrected)
     let issued := (s.jobsMet first count).filter (fun j => s.jobIssued j)
     ((∃ r ∈ s.records, r.first < first + count ∧ first < r.first + r.len ∧ 0 < r.openWrites) → answers s) ∧
     ((∀ r ∈ s.records, r.first < first + count → first < r.first + r.len → r.openWrites = 0) → issued ≠ [] →
       answers (s.setWork
         { s.work with jobs := s.work.jobs.map (fun j =>
           if j.id ∈ (issued.filter Job.isPromote).map (fun x => x.id) then { j with cancel := true } else j) }))) ∧
  ∀ (s : State) (tag first count corrected : Nat), s.serves .iLink tag = true → s.admits first count = true →
    s.supply.warning = false →
    let held := fun (i : Instr) (r : Request) (c : Change) => c.entries ≠ [] →
      (s.jrn.fault.isSome → exec i s = .next ((s.send (replyTo r .iLink tag .hold .empty)).afterReads corrected)) ∧
      (s.jrn.fault = none → c.fits = false → ∃ t, exec i s = .next (t.afterReads corrected) ∧
        t.sent = s.sent ++ [replyTo r .iLink tag .retry .empty] ∧ t.jrn.lastJsn = s.jrn.lastJsn ∧
        t.work.jobs = s.work.jobs ∧ s.keepsLists t ∧ s.changesOnly t [.sent, .ports, .work, .jrn])
    ((∀ r ∈ s.records, r.met first count = true → r.openWrites = 0) →
      (∀ j ∈ s.jobsMet first count, s.jobIssued j = false) →
      held (.discard tag first count corrected) (.discard first count)
        (((s.recordsMeeting first count).map (fun r => r.id)).foldl (Change.discard first count)
          (Change.start (s.cancelJobs (s.jobsMet first count))))) ∧
    ((s.gaps first count).length ≤ s.freePlaces →
      (s.pinAdds first count = 0 ∨ s.pinnedGrains + s.pinAdds first count ≤ s.pinLimit) →
      held (.pin tag first count corrected) (.pin first count) (s.pinChange first count)) ∧
    held (.unpin tag first count corrected) (.unpin first count) (s.unpinChange first count)

/-- A WRITE_CLOSE that passes its checks lowers the open-write counts of the listed records, frees the handle, raises
its generation and answers with the commit JSN (R65, R66). With OK each record made here is committed and stands on the
dirty list; with FAILED it is dropped and its slots enter the quarantine, keyed by its EXTENT_DROP (R23). The entries
are one ABSORB_COMMIT of its first grain, or one EXTENT_DROP of its extent, for each record made here, in ascending
first grain (R65, R66). No slot awaits retirement here. The words that its reads correct are counted, the command
bringing their number (R189; log 7). -/
def Obligations.WriteCloses : Prop :=
  ∀ (s : State) (tag h gen outcome corrected : Nat) (w : OpenWrite), s.serves .iLink tag = true → h ≤ 31 → gen ≤ 15 →
    outcome ≤ 1 → s.openWrite h = some w → (s.writes.get h).gen = gen → extentsSound s.records →
    (s.closeChange w (decide (outcome = 0))).fits = true → s.jrn.lastJsn ≤ 4294967295 →
    s.writes.handles.length = 32 → s.enduring = true →
    (∀ r ∈ s.records, w.listings.any (fun x => x.record = r.id) → s.unretired r = true) →
    let made := s.createdBy w
    let isMade := fun (r : Rec) => made.any (fun x => x.id = r.id)
    let listed := fun (r : Rec) => w.listings.any (fun x => x.record = r.id)
    ∃ t, exec (.writeClose tag h gen outcome corrected) s = .next (t.afterReads corrected) ∧
      t.sent = s.sent ++ [replyTo (.writeClose h gen outcome) .iLink tag .ok
        (.jsn (if made = [] then w.commitJsn else t.jrn.lastJsn))] ∧
      t.jrn.lastJsn = jsnAdd s.jrn.lastJsn made.length ∧
      s.journaled t (made.map (fun r =>
        if outcome = 0 then .absorbCommit r.first else .extentDrop r.first r.len)) ∧
      t.writes.get h = { gen := (gen + 1) % 16, write := none } ∧
      (∀ k, k ≠ h → (t.writes.get k).gen = (s.writes.get k).gen ∧
        ((t.openWrite k).isSome ↔ (s.openWrite k).isSome)) ∧
      (outcome = 0 →
        t.records = s.records.map (fun r =>
          if listed r then { r with openWrites := r.openWrites - 1, absorbOpen := r.absorbOpen && !isMade r } else r) ∧
        (∀ r ∈ made, r.id ∈ t.plan.dirtyList) ∧ t.pool = s.pool) ∧
      (outcome = 1 →
        t.records = (s.records.filter (fun r => !isMade r)).map (fun r =>
          if listed r then { r with openWrites := r.openWrites - 1 } else r) ∧
        (∀ r ∈ made, r.id ∉ t.plan.dirtyList) ∧
        t.pool.quarantine = s.pool.quarantine ++ (made.zipIdx 1).flatMap (fun x =>
          x.1.slots.map (fun n => ⟨n, jsnAdd s.jrn.lastJsn x.2, false⟩)) ∧
        t.pool.free = s.pool.free) ∧
      s.keepsLists t ∧ t.work.jobs = s.work.jobs ∧
      s.changesOnly t [.sent, .ports, .map, .writes, .pool, .plan, .work, .jrn]

/-- A write times out when WRITE_TIMEOUT ms have passed since it opened: it is closed as OK and WRITE_ORPHAN is raised,
or, while the journal cannot take its entries, it stays open, held. A held timeout closes the write as soon as the
journal can take them (R67), whatever the write's age is against the WRITE_TIMEOUT of that moment (log 57). The
commands come when the timeout is due and when the journal has room; at any other moment, HELD_TIMEOUT_CLOSE without
room among them, they change nothing (log 3, log 35). The words that its reads correct are counted, the command
bringing their number (R189; log 7). -/
def Obligations.WriteTimesOut : Prop :=
  ∀ (s : State) (h corrected : Nat) (w : OpenWrite), s.awake = true → s.enduring = true → h ≤ 31 →
    s.openWrite h = some w →
    extentsSound s.records → s.writes.handles.length = 32 → s.jrn.lastJsn ≤ 4294967295 →
    (∀ r ∈ s.records, w.listings.any (fun x => x.record = r.id) → s.unretired r = true) →
    let closes := fun (i : Instr) => ∃ t, exec i s = .next (t.afterReads corrected) ∧
      t.writes.get h = { gen := ((s.writes.get h).gen + 1) % 16, write := none } ∧
      Notice.writeOrphan h (s.writes.get h).gen w.first w.count ∈ (t.port .iLink).notices ∧
      t.records = s.records.map (fun r =>
        if w.listings.any (fun x => x.record = r.id) then
          { r with
            openWrites := r.openWrites - 1
            absorbOpen := r.absorbOpen && !w.listings.any (fun x => x.record = r.id && x.createdHere) }
        else r) ∧
      s.journaled t ((s.createdBy w).map (fun r => .absorbCommit r.first)) ∧ s.keepsLists t ∧
      s.changesOnly t [.ports, .map, .writes, .plan, .work, .jrn]
    (w.held = false → w.opened + s.params.writeTimeout ≤ s.now →
      ((s.closeChange w true).fits = true → closes (.writeTimeout h corrected)) ∧
      ((s.closeChange w true).fits = false → ∃ t, exec (.writeTimeout h corrected) s = .next (t.afterReads corrected) ∧
        t.writes.handles = s.writes.handles.set h
          { gen := (s.writes.get h).gen, write := some { w with held := true } } ∧
        t.map = s.map ∧ t.jrn.lastJsn = s.jrn.lastJsn ∧ s.keepsLists t)) ∧
    (w.held = false → s.now < w.opened + s.params.writeTimeout → exec (.writeTimeout h corrected) s = .next s) ∧
    (w.held = true →
      exec (.writeTimeout h corrected) s = .next s ∧
      ((s.closeChange w true).fits = true → closes (.heldTimeoutClose h corrected)) ∧
      ((s.closeChange w true).fits = false → exec (.heldTimeoutClose h corrected) s = .next s))

/-- A DISCARD that meets no job and no open write takes the grains of its range from their records: a record covered
whole is dropped, one covered at its start or its end shrinks, and one covered in its middle keeps its extent and loses
the dirty marks of the grains (R25). The slots of the grains so removed enter the quarantine and none returns to the
free pool at once (R81). Every other grain keeps its record, its slot and its mark, and every record met has its failed
write-back forgiven (R70). The entries, in ascending first grain of the records, are an EXTENT_DROP for a record
covered whole, an EXTENT_DROP of its old extent and an EXTENT_SET of the new one for a record that shrinks, and an
EXTENT_SET for one whose middle loses dirty marks (R25, R70). No slot of a record met awaits retirement. The words that
its reads correct are counted, the command bringing their number (R189; log 7). -/
def Obligations.DiscardTakes : Prop :=
  ∀ (s : State) (tag first count corrected : Nat), s.serves .iLink tag = true → s.admits first count = true →
    s.supply.warning = false → extentsSound s.records → s.jobsMet first count = [] →
    (∀ r ∈ s.records, r.first < first + count → first < r.first + r.len →
      r.openWrites = 0 ∧ r.state ≠ .promoting ∧ r.state ≠ .writingBack) →
    (((s.recordsMeeting first count).map (fun r => r.id)).foldl (Change.discard first count) (Change.start s)).fits =
      true →
    (∀ r ∈ s.records, r.met first count = true → s.unretired r = true) → s.jrn.lastJsn ≤ 4294967295 →
    ∃ t, exec (.discard tag first count corrected) s = .next (t.afterReads corrected) ∧
      t.sent = s.sent ++ [replyTo (.discard first count) .iLink tag .ok .empty] ∧
      (∀ g, s.recordAt g = none → t.recordAt g = none) ∧
      (∀ g r, s.recordAt g = some r → inRange first count g →
        if r.first < first ∧ first + count < r.first + r.len then
          t.dirtyAt g = false ∧ t.slotAt g = s.slotAt g ∧ ∃ r', t.recordAt g = some r' ∧ r'.id = r.id
        else
          t.recordAt g = none ∧ ∀ n, s.slotAt g = some n → r.slots.length = r.len →
            ∃ q ∈ t.pool.quarantine, q.slot = n ∧ q.retire = false) ∧
      (∀ g r, s.recordAt g = some r → ¬inRange first count g →
        t.slotAt g = s.slotAt g ∧ t.dirtyAt g = s.dirtyAt g ∧
          ∃ r', t.recordAt g = some r' ∧ r'.id = r.id ∧ r'.heat = r.heat ∧ r'.epoch = r.epoch) ∧
      (∀ r' ∈ t.records, r'.state = .dirty → r'.dirty ≠ 0 ∨ r' ∈ s.records) ∧
      (∀ r ∈ s.records, r.first < first + count → first < r.first + r.len → ∀ r' ∈ t.records, r'.id = r.id →
        r'.attempts = 0 ∧ r'.wbFailed = false) ∧
      t.pool.free = s.pool.free ∧ s.pool.quarantine <+: t.pool.quarantine ∧
      s.journaled t ((s.recordsMeeting first count).flatMap (fun r =>
        if first ≤ r.first ∧ r.first + r.len ≤ first + count then [.extentDrop r.first r.len]
        else
          let left := (t.records.filter (fun x => x.id = r.id)).map (fun x => Entry.extentSet x.described)
          if r.first < first ∧ first + count < r.first + r.len then
            if r.dirty &&& r.covered first count = 0 then [] else left
          else .extentDrop r.first r.len :: left)) ∧
      s.keepsLists t ∧ t.work.jobs = s.work.jobs ∧
      s.changesOnly t [.sent, .ports, .map, .writes, .pool, .plan, .work, .jrn]

/-- PIN is answered FULL where its gaps outnumber the free record places, and LIMIT where it would add grains that
bring the pinned total over floor (active slots * PIN_PERCENT / 100) (R71, R72). Otherwise it pins every record it
meets and makes a pinned TRACKED record of each gap, and an EXTENT_SET is placed for each, in ascending first grain
(R73). UNPIN clears the pinned flag of every record it meets and places an EXTENT_SET for each record changed, in the
same order (R74); no slot of a record met awaits retirement there. The words that its reads correct are counted, the
command bringing their number (R189; log 7). -/
def Obligations.PinsAndUnpins : Prop :=
  (∀ (s : State) (tag first count corrected : Nat), s.serves .iLink tag = true → s.admits first count = true →
     s.supply.warning = false → extentsSound s.records → s.jrn.lastJsn ≤ 4294967295 →
     let met := fun (r : Rec) => r.met first count
     let fresh := (List.range' first count).countP (fun g => (s.recordAt g).isNone)
     let adds := ((s.records.filter (fun r => met r && !r.pinned)).map (fun r => r.len)).sum + fresh
     let limit := (s.map.slotCount - s.pool.retired.length) * s.params.pinPercent / 100
     let answers := fun (c : ReplyCode) =>
       exec (.pin tag first count corrected) s =
         .next ((s.send (replyTo (.pin first count) .iLink tag c .empty)).afterReads corrected)
     let gaps := (s.gaps first count).length
     (16384 - s.records.length < gaps → answers .full) ∧
     (gaps ≤ 16384 - s.records.length → 0 < adds → limit < s.pinnedGrains + adds → answers .limit) ∧
     (gaps ≤ 16384 - s.records.length → (adds = 0 ∨ s.pinnedGrains + adds ≤ limit) →
       (s.pinChange first count).fits = true →
       ∃ t, exec (.pin tag first count corrected) s = .next (t.afterReads corrected) ∧
         t.sent = s.sent ++ [replyTo (.pin first count) .iLink tag .ok .empty] ∧
         (∀ g, inRange first count g → ∃ r, t.recordAt g = some r ∧ r.pinned = true ∧
           (s.recordAt g = none → r.state = .tracked ∧ r.heat = 0 ∧ r.epoch = s.heat.epoch)) ∧
         (∀ g r, s.recordAt g = some r → ∃ b, t.recordAt g = some { r with pinned := b } ∧
           (b = true ↔ r.pinned = true ∨ met r = true)) ∧
         (∀ g, s.recordAt g = none → ¬inRange first count g → t.recordAt g = none) ∧
         t.pinnedGrains = s.pinnedGrains + adds ∧
         t.jrn.lastJsn = jsnAdd s.jrn.lastJsn (s.records.countP (fun r => met r && !r.pinned) + gaps) ∧
         s.journaled t ((t.records.filter (fun r =>
           met r && !s.records.any (fun x => x.id = r.id && x.pinned))).map (fun r => .extentSet r.described)) ∧
         (adds = 0 → t.jrn = s.jrn) ∧ s.keepsLists t ∧ t.work.jobs = s.work.jobs ∧
         s.changesOnly t [.sent, .ports, .map, .plan, .work, .jrn])) ∧
  (∀ (s : State) (tag first count corrected : Nat), s.serves .iLink tag = true → s.admits first count = true →
     s.supply.warning = false → (s.unpinChange first count).fits = true →
     (∀ r ∈ s.records, r.met first count = true → s.isRetiring r.id = false) → extentsSound s.records →
     s.jrn.lastJsn ≤ 4294967295 →
     let met := fun (r : Rec) => r.met first count
     ∃ t, exec (.unpin tag first count corrected) s = .next (t.afterReads corrected) ∧
       t.sent = s.sent ++ [replyTo (.unpin first count) .iLink tag .ok .empty] ∧
       t.records = s.records.map (fun r => if met r then { r with pinned := false } else r) ∧
       t.jrn.lastJsn = jsnAdd s.jrn.lastJsn (s.records.countP (fun r => met r && r.pinned)) ∧
       s.journaled t ((s.records.filter (fun r => met r && r.pinned)).map (fun r =>
         .extentSet ({ r with pinned := false } : Rec).described)) ∧
       s.keepsLists t ∧ t.work.jobs = s.work.jobs ∧ s.changesOnly t [.sent, .ports, .map, .plan, .work, .jrn])

/-- SYNC answers OK at once where the last JSN assigned is durable, and HOLD in JOURNAL_FAULT; otherwise it asks for
the emission of the open page and waits with the last JSN assigned as its target (R75, R76). The words that its reads
correct are counted, the command bringing their number (R189; log 7). -/
def Obligations.SyncAnswers : Prop :=
  ∀ (s : State) (tag corrected : Nat), s.serves .iLink tag = true →
    (jsnLe s.jrn.lastJsn s.jrn.durableJsn = true →
      exec (.sync tag corrected) s =
        .next ((s.send (replyTo .sync .iLink tag .ok (.jsn s.jrn.lastJsn))).afterReads corrected)) ∧
    (jsnLe s.jrn.lastJsn s.jrn.durableJsn = false → s.jrn.fault.isSome →
      exec (.sync tag corrected) s = .next ((s.send (replyTo .sync .iLink tag .hold .empty)).afterReads corrected)) ∧
    (jsnLe s.jrn.lastJsn s.jrn.durableJsn = false → s.jrn.fault = none →
      ∃ t, exec (.sync tag corrected) s = .next (t.afterReads corrected) ∧ t.sent = s.sent ∧
        (t.port .iLink).accepted = (s.port .iLink).accepted ++
          [{ frame := requestFrame .sync tag, duplicate := false, standing := .syncWaits s.jrn.lastJsn }] ∧
        (∀ l, l ≠ .iLink → (t.port l).accepted = (s.port l).accepted) ∧
        t.jrn.lastJsn = s.jrn.lastJsn ∧ t.jrn.durableJsn = s.jrn.durableJsn ∧
        (t.hasUnemitted = true → t.jrn.pendingEmission ≠ none) ∧
        s.changesOnly t [.ports, .work, .jrn])

/-- Jobs whose orders are not issued give way: a WRITE_OPEN ends such PROMOTE jobs on the records that it meets (R57),
and a DISCARD such jobs of either kind (R70), and the request is then served as by the part without them. A PROMOTE job
leaves its record TRACKED, offered to the candidate list, and its reservation at the tail of the free pool; a WRITEBACK
job leaves its record DIRTY with both masks, at the head of the dirty list; their orders leave the queues (R134). The
request must itself come to be answered OK: refused, it ends no job. No slot of such a reservation awaits retirement.
-/
def Obligations.WaitingJobsGiveWay : Prop :=
  ∀ (s : State) (tag first count corrected : Nat) (write : Bool), s.serves .iLink tag = true →
    s.admits first count = true → s.supply.warning = false → extentsSound s.records →
    (s.work.jobs.map (fun j => j.id)).Nodup → (s.work.jobs.map (fun j => j.record)).Nodup →
    let met := if write = true then s.promotionsMet first count else s.jobsMet first count
    let ends := fun (id : Nat) => met.any (fun j => j.id = id)
    let promoted := fun (j : Job) =>
      match j.kind with
      | .promote slots => slots
      | .writeback _ => []
    let back := (met.filter (fun j => !j.isPromote)).map (fun j => j.record)
    (∀ j ∈ met, s.jobIssued j = false ∧ ∀ x ∈ s.pool.pendingRetire, x.slot ∉ promoted j) →
    ∃ u, s.changesOnly u [.map, .pool, .plan, .work] ∧
      u.work = { s.work with
        jobs := s.work.jobs.filter (fun j => !ends j.id), completing := s.work.completing.filter (fun id => !ends id)
        dQueue := s.work.dQueue.filter (fun o => !ends o.id)
        migQueue := s.work.migQueue.filter (fun o => !ends o.id) } ∧
      u.map = { s.map with records := s.records.map (fun r =>
        match met.find? (fun j => j.record = r.id) with
        | none => r
        | some j =>
          if j.isPromote = true then { r with state := .tracked }
          else { r with state := .dirty, dirty := r.dirty ||| r.rewrite, rewrite := 0 }) } ∧
      u.pool = { s.pool with free := s.pool.free ++ met.flatMap promoted } ∧
      u.plan = { s.plan with
        candidates := u.plan.candidates
        dirtyList := back.reverse ++ s.plan.dirtyList.filter (fun id => id ∉ back) } ∧
      (s.plan.candidates.length + met.length ≤ 64 → ∀ j ∈ met, j.isPromote = true → ∀ r ∈ s.records, r.id = j.record →
        r.pinned = true ∨ s.params.tPromote ≤ r.density s.heat.epoch → u.isCandidate r.id = true) ∧
      (write = true → s.writes.freeHandle ≠ none →
        let runs := if s.work.spindle = .spinning then [] else u.absorbRuns first count
        (s.work.spindle = .spinning ∨
          ((runs.map (fun a => a.count)).sum ≤ u.pool.free.length ∧ u.placesShort runs = false)) →
        (u.routeChange first count runs).fits = true →
        exec (.writeOpen tag first count corrected) s = exec (.writeOpen tag first count corrected) u) ∧
      (write = false → (∀ r ∈ s.records, r.met first count = true → r.openWrites = 0) →
        (((u.recordsMeeting first count).map (fun r => r.id)).foldl (Change.discard first count)
          (Change.start u)).fits = true →
        exec (.discard tag first count corrected) s = exec (.discard tag first count corrected) u)

/-! ## Slots, orders and jobs -/

/-- RETIRE answers RANGE for a slot at or above SLOT_COUNT, ALREADY for one on its way to the retired set (JSN 0 is the
model's choice, log 55), and HOLD under the warning (R84). Where its disposal has entries to place it is answered HOLD
in JOURNAL_FAULT and RETRY while the journal cannot take them. It retires a free slot, marks a quarantined one,
releases the MIRRORED record that holds it where the record is unpinned and without open writes, and otherwise leaves
the slot pending with its record, a DIRTY one standing at the head of the dirty list (R85). A slot of a reservation
ends its job where the job's order waits, and is then retired; where the order is issued it sets the cancel flag and
leaves the slot pending with the job (R85, R133). The JSN is that of the SLOT_RETIRE placed, or 0. The words that its
reads correct are counted, the command bringing their number (R189; log 7). -/
def Obligations.RetireDisposes : Prop :=
  ∀ (s : State) (tag n corrected : Nat), s.serves .fLink tag = true → n < 2 ^ 32 → s.jrn.lastJsn ≤ 4294967295 →
    let r := Request.retire n
    let answers := fun (c : ReplyCode) (b : ReplyBody) =>
      exec (.retire tag n corrected) s = .next ((s.send (replyTo r .fLink tag c b)).afterReads corrected)
    let leaving := s.pool.retired.contains n || s.pool.pendingRetire.any (fun x => x.slot = n) ||
      s.pool.quarantine.any (fun q => q.slot = n && q.retire)
    let ends := fun (d : Disposition) (jsn : Nat) (t : State) =>
      exec (.retire tag n corrected) s = .next (t.afterReads corrected) ∧
      t.sent = s.sent ++ [replyTo r .fLink tag .ok (.retired d jsn)] ∧
        s.keepsLists t ∧ s.changesOnly t [.sent, .ports, .map, .pool, .plan, .work, .jrn]
    let free := s.pool.free.contains n
    let quarantined := s.pool.quarantine.any (fun q => q.slot = n)
    let retiring := n < s.map.slotCount ∧ leaving = false ∧ s.supply.warning = false
    let elsewhere := retiring ∧ free = false ∧ quarantined = false
    let first := jsnAdd s.jrn.lastJsn 1
    (s.map.slotCount ≤ n → answers .range .empty) ∧
    (n < s.map.slotCount → leaving = true → answers .ok (.retired .already 0)) ∧
    (n < s.map.slotCount → leaving = false → s.supply.warning = true → answers .hold .empty) ∧
    (∀ c, retiring → s.retireChange n = some c → c.entries ≠ [] →
      (s.jrn.fault.isSome → answers .hold .empty) ∧
      (s.jrn.fault = none → c.fits = false → ∃ t, exec (.retire tag n corrected) s = .next (t.afterReads corrected) ∧
        t.sent = s.sent ++ [replyTo r .fLink tag .retry .empty] ∧ t.jrn.lastJsn = s.jrn.lastJsn ∧
        t.work.jobs = s.work.jobs ∧ s.keepsLists t ∧ s.changesOnly t [.sent, .ports, .work, .jrn])) ∧
    (retiring → s.canTake false [.slotRetire n] = true →
      (free = true → ∃ t, ends .retired first t ∧
        t.pool = { s.pool with free := s.pool.free.filter (fun x => x ≠ n), retired := t.pool.retired } ∧
        (∀ m, m ∈ t.pool.retired ↔ m = n ∨ m ∈ s.pool.retired) ∧ s.journaled t [.slotRetire n] ∧
        t.records = s.records) ∧
      (free = false → quarantined = true → ∃ t, ends .pending first t ∧
        t.pool = { s.pool with quarantine :=
          s.pool.quarantine.map (fun q => if q.slot = n then { q with retire := true } else q) } ∧
        s.journaled t [.slotRetire n] ∧ t.records = s.records)) ∧
    (∀ j slots, elsewhere → s.reservedBy n = some j → j.kind = .promote slots →
      s.canTake false [.slotRetire n] = true → s.pool.pendingRetire = [] →
      (s.jobIssued j = true → ∃ t, ends .pending first t ∧ s.journaled t [.slotRetire n] ∧
        t.pool = { s.pool with pendingRetire := [⟨n, .job j.id⟩] } ∧ t.records = s.records ∧
        t.work.jobs = s.work.jobs.map (fun x => if x.id = j.id then { x with cancel := true } else x)) ∧
      (s.jobIssued j = false → s.enduring = true → ∃ t, ends .retired first t ∧ s.journaled t [.slotRetire n] ∧
        t.pool.free = s.pool.free ++ slots.filter (fun x => x ≠ n) ∧
        (∀ m, m ∈ t.pool.retired ↔ m = n ∨ m ∈ s.pool.retired) ∧ t.pool.pendingRetire = [] ∧
        t.pool.quarantine = s.pool.quarantine ∧
        t.records = s.records.map (fun x => if x.id = j.record then { x with state := .tracked } else x) ∧
        t.work.jobs = s.work.jobs.filter (fun x => x.id ≠ j.id) ∧
        t.work.dQueue = s.work.dQueue.filter (fun o => o.id ≠ j.id) ∧
        t.work.migQueue = s.work.migQueue.filter (fun o => o.id ≠ j.id))) ∧
    ∀ x, elsewhere → s.reservedBy n = none → s.heldBy n = some x → extentsSound s.records →
      s.pool.pendingRetire = [] →
      if x.state = .mirrored ∧ x.pinned = false ∧ x.openWrites = 0 then
        let released : Rec := { x with state := .tracked, slots := [], attempts := 0 }
        (s.retireHeld n x).fits = true → ∃ t, ends .pending (jsnAdd s.jrn.lastJsn 2) t ∧
          t.records = s.records.map (fun y => if y.id = x.id then released else y) ∧
          t.pool.quarantine = s.pool.quarantine ++ x.slots.map (fun m => ⟨m, first, decide (m = n)⟩) ∧
          t.pool.pendingRetire = [] ∧ t.pool.free = s.pool.free ∧
          s.journaled t [.extentSet released.described, .slotRetire n]
      else
        ∃ t, ends .pending 0 t ∧ t.pool = { s.pool with pendingRetire := [⟨n, .record x.id⟩] } ∧
          t.isRetiring x.id = true ∧ t.records = s.records ∧ t.jrn = s.jrn ∧
          t.plan = { s.plan with dirtyList :=
            if x.state = .dirty ∧ ¬(x.wbFailed = true ∧ 3 ≤ x.attempts) then
              x.id :: s.plan.dirtyList.filter (fun y => y ≠ x.id)
            else s.plan.dirtyList }

/-- SPINDLE records one of four states; another value is answered RANGE. A change to SPINNING raises ORDERS_READY with
the number of orders that wait on the D-link, if any does; any other state raises SPIN_WANTED while the arming is armed
and the dirty grains stand at or above the high mark, and disarms it, wherever there is a SLOT_COUNT to work that mark
out from (R109, R125, R136; log 25). A state repeated changes nothing. The words that its reads correct are counted,
the command bringing their number (R189; log 7). -/
def Obligations.SpindleRecords : Prop :=
  ∀ (s : State) (tag code corrected : Nat), s.ready .dLink tag = true → tag < 16 → code < 256 → s.steady = true →
    s.calm = true → s.recovery.service ≠ .waiting →
    (s.port .dLink).notices.Pairwise (fun a b => a.code < b.code) →
    let r := Request.spindle code
    (3 < code →
      exec (.spindle tag code corrected) s =
        .next ((s.send (replyTo r .dLink tag .range .empty)).afterReads corrected)) ∧
    ∀ v, (code = 0 ∧ v = Spindle.spinning) ∨ (code = 1 ∧ v = .spinningUp) ∨ (code = 2 ∧ v = .stopped) ∨
        (code = 3 ∧ v = .parked) →
      (s.work.spindle = v →
        exec (.spindle tag code corrected) s =
          .next ((s.send (replyTo r .dLink tag .ok .empty)).afterReads corrected)) ∧
      (s.work.spindle ≠ v → ∃ t, exec (.spindle tag code corrected) s = .next (t.afterReads corrected) ∧
        t.sent = s.sent ++ [replyTo r .dLink tag .ok .empty] ∧ t.work = { s.work with spindle := v } ∧
        (∀ n, n ∈ (t.port .dLink).notices ↔
          if v = .spinning ∧ s.work.dQueue ≠ [] then
            n = .ordersReady s.work.dQueue.length ∨ (n ∈ (s.port .dLink).notices ∧ n.code ≠ 10)
          else if v ≠ .spinning ∧ s.marksKnown = true ∧ s.plan.armed = true ∧ s.highMark ≤ s.dirtyGrains then
            n = .spinWanted .dirtyHigh ∨ (n ∈ (s.port .dLink).notices ∧ n.code ≠ 9)
          else n ∈ (s.port .dLink).notices) ∧
        t.plan = { s.plan with armed :=
          if s.marksKnown = true then decide (s.dirtyGrains < s.highMark ∨ (v = .spinning ∧ s.plan.armed = true))
          else s.plan.armed } ∧
        (∀ l, l ≠ .dLink → t.port l = s.port l) ∧ s.keepsLists t ∧ s.changesOnly t [.sent, .ports, .plan, .work])

/-- FETCH on the D-link hands out the head of its queue while the spindle is SPINNING and the issued count is below
ISSUE_DEPTH_D (R123); on the F-link, below ISSUE_DEPTH_F, the head of the page class, or else of the migration class
(R124). The order enters the issued set, and the reply carries its id, its generation and its body. Otherwise the
answer is OK with none, and nothing changes. The words that its reads correct are counted, the command bringing their
number (R189; log 7). -/
def Obligations.FetchHands : Prop :=
  ∀ (s : State) (l : Link) (tag corrected : Nat), s.ready l tag = true → tag < 16 → s.steady = true →
    s.calm = true →
    s.recovery.service ≠ .waiting → l ≠ .iLink →
    let queue := match l with
      | .dLink => if s.work.spindle = .spinning then s.work.dQueue else []
      | .fLink => s.work.pageQueue ++ s.work.migQueue
      | .iLink => []
    let depth := match l with
      | .dLink => s.params.issueDepthD
      | .fLink | .iLink => s.params.issueDepthF
    let idle := exec (.fetch l tag corrected) s =
      .next ((s.send (replyTo .fetch l tag .ok .empty)).afterReads corrected)
    (depth ≤ (s.issued l).length → idle) ∧ (queue = [] → idle) ∧
    ∀ o rest, queue = o :: rest → (s.issued l).length < depth →
      ∃ t, exec (.fetch l tag corrected) s = .next (t.afterReads corrected) ∧
        t.sent = s.sent ++ [replyTo .fetch l tag .ok (.order o.id (s.genOf o.id) o.body)] ∧
        t.issued l = s.issued l ++ [o] ∧ (∀ m, m ≠ l → t.issued m = s.issued m) ∧
        (l = .dLink → t.work.dQueue = rest ∧
          t.work.pageQueue ++ t.work.migQueue = s.work.pageQueue ++ s.work.migQueue) ∧
        (l = .fLink → t.work.pageQueue ++ t.work.migQueue = rest ∧ t.work.dQueue = s.work.dQueue) ∧
        t.work.jobs = s.work.jobs ∧ t.work.gens = s.work.gens ∧
        t.jrn = { s.jrn with images := t.jrn.images } ∧ s.changesOnly t [.sent, .work, .jrn]

/-- FINISH answers RANGE for an order id above 31, a generation above 15 or an outcome that is none of the three; STALE
where it meets a fence, which is lifted; STALE where the id is not in the link's issued set with that generation; and
RANGE where a page image is missing or not asked for, the order staying issued (R126). The words that its reads correct
are counted, the command bringing their number (R189; log 7). -/
def Obligations.FinishRefusals : Prop :=
  ∀ (s : State) (l : Link) (tag id gen outcome corrected : Nat) (image : Option (List Byte)), s.ready l tag = true →
    tag < 16 →
    (Request.finish id gen outcome image).fits = true → s.steady = true → s.calm = true →
    s.recovery.service ≠ .waiting → l ≠ .iLink →
    let r := Request.finish id gen outcome image
    let i := Instr.finish l tag id gen outcome image corrected
    let answers := fun (c : ReplyCode) => exec i s = .next ((s.send (replyTo r l tag c .empty)).afterReads corrected)
    let metW := fun (w : WindowFence) => w.link = l ∧ w.order = id ∧ w.gen = gen
    let metP := fun (p : PageFence) => l = .fLink ∧ p.order = id ∧ p.gen = gen
    let fenced := (∃ w ∈ s.work.windowFences, metW w) ∨ ∃ p ∈ s.work.pageFences, metP p
    (31 < id ∨ 15 < gen ∨ 2 < outcome → answers .range) ∧
    (id ≤ 31 → gen ≤ 15 → outcome ≤ 2 →
      (fenced → ∃ t, exec i s = .next (t.afterReads corrected) ∧ t.sent = s.sent ++ [replyTo r l tag .stale .empty] ∧
        (∀ w, w ∈ t.work.windowFences ↔ w ∈ s.work.windowFences ∧ ¬metW w) ∧
        (∀ p, p ∈ t.work.pageFences ↔ p ∈ s.work.pageFences ∧ ¬metP p) ∧
        t.work.jobs = s.work.jobs ∧ t.work.dIssued = s.work.dIssued ∧ t.work.fIssued = s.work.fIssued ∧
        s.keepsLists t ∧ s.changesOnly t [.sent, .ports, .work, .jrn, .recovery]) ∧
      (¬fenced → (∀ o ∈ s.issued l, o.id = id → s.genOf id ≠ gen) → answers .stale) ∧
      ∀ o, ¬fenced → s.issuedOrder l id gen = some o →
        (match o.body with
          | .pageRead _ => image.isSome ≠ decide (outcome = 0)
          | _ => image.isSome = true) → answers .range)

/-- The outcome of a migration order (R127 to R132). A job whose cancel flag is set ends as cancelled, whatever the
outcome; so does one that is finished DONE in stage 1 or ABORTED under the warning or during a quiesce (R135).
Otherwise DONE in stage 1 makes the stage 2 order, at the tail of the other link's queue; ABORTED puts the order back
at the head of its queue, up to two times; FAILED, or a third ABORTED, ends the job: a promotion leaves its record
TRACKED with heat 0, a write-back leaves it DIRTY, its attempts raised, its failure flag set and off the dirty list. A
reservation goes back to the tail of the free pool, but for its slots that await retirement, which are retired (R86).
The order leaves the issued set and its generation rises. The words that its reads correct are counted, the command
bringing their number (R189; log 7). -/
def Obligations.JobOutcomes : Prop :=
  ∀ (s : State) (l : Link) (tag gen outcome corrected : Nat) (o : Order) (j : Job), s.ready l tag = true → tag < 16 →
    s.enduring = true → s.calm = true → s.recovery.service ≠ .waiting → l ≠ .iLink → outcome ≤ 2 → o.id < 8 →
    gen ≤ 15 → s.fenceMet l o.id gen = false → s.issuedOrder l o.id gen = some o → s.jobOf o.id = some j →
    (match o.body with
      | .pageRead _ | .pageWrite _ _ => False
      | _ => True) →
    extentsSound s.records → s.work.gens.length = 32 →
    (s.work.jobs.map (fun x => x.id)).Nodup →
    let others := s.work.jobs.filter (fun x => x.id ≠ j.id)
    let record := fun (f : Rec → Rec) => s.records.map (fun r => if r.id = j.record then f r else r)
    let reserved := match j.kind with
      | .promote slots => slots
      | .writeback _ => []
    let awaits := fun (n : Nat) => s.pool.pendingRetire.any (fun x => x.slot = n)
    ∃ t, exec (.finish l tag o.id gen outcome none corrected) s = .next (t.afterReads corrected) ∧
      t.sent = s.sent ++ [replyTo (.finish o.id gen outcome none) l tag .ok .empty] ∧
      t.issued l = (s.issued l).filter (fun x => x.id ≠ o.id) ∧
      ((∀ i ∈ s.jrn.images, ∀ id, i.state = .waiting id → 8 ≤ id) → ∀ id, id < 8 →
        t.genOf id = if id = o.id then (gen + 1) % 16 else s.genOf id) ∧
      s.keepsLists t ∧ s.changesOnly t [.sent, .ports, .map, .pool, .plan, .work, .jrn] ∧
      let ended := t.work.jobs = others ∧ t.jrn = s.jrn ∧ t.work.gens = s.work.gens.set o.id ((gen + 1) % 16) ∧
        t.pool.free = s.pool.free ++ reserved.filter (fun n => !awaits n) ∧
        (∀ n, n ∈ t.pool.retired ↔ n ∈ s.pool.retired ∨ (n ∈ reserved ∧ awaits n = true)) ∧
        t.pool.pendingRetire = s.pool.pendingRetire.filter (fun x => x.slot ∉ reserved) ∧
        t.pool.quarantine = s.pool.quarantine
      (j.cancel = true ∨ (outcome = 0 ∧ j.stage = .one ∧ s.withdrawing = true) ∨
          (outcome = 2 ∧ j.attempts + 1 < 3 ∧ s.withdrawing = true) →
        ended ∧
        match j.kind with
        | .promote _ => t.records = record (fun r => { r with state := .tracked })
        | .writeback _ =>
          t.records = record (fun r => { r with state := .dirty, dirty := r.dirty ||| r.rewrite, rewrite := 0 }) ∧
          t.plan.dirtyList = j.record :: s.plan.dirtyList.filter (fun x => x ≠ j.record)) ∧
      (j.cancel = false → outcome = 1 ∨ (outcome = 2 ∧ 3 ≤ j.attempts + 1) →
        ended ∧
        match j.kind with
        | .promote _ =>
          t.records = record (fun r => { r with state := .tracked, heat := 0 }) ∧ t.plan.dirtyList = s.plan.dirtyList
        | .writeback _ =>
          t.records = record (fun r =>
            { r with
              state := .dirty, dirty := r.dirty ||| r.rewrite, rewrite := 0, attempts := r.attempts + 1
              wbFailed := true }) ∧
          t.plan.dirtyList = s.plan.dirtyList.filter (fun x => x ≠ j.record) ∧
          (∀ r ∈ s.records, r.id = j.record → j.stage = .one → 3 ≤ r.attempts + 1 →
            Notice.dataAtRisk r.first r.len ∈ (t.port .iLink).notices)) ∧
      (j.cancel = false → s.withdrawing = false → outcome = 2 → j.attempts + 1 < 3 →
        t.work.jobs = s.work.jobs.map (fun x => if x.id = j.id then { x with attempts := x.attempts + 1 } else x) ∧
        (l = .dLink → t.work.dQueue = o :: s.work.dQueue) ∧ (l = .fLink → t.work.migQueue = o :: s.work.migQueue) ∧
        t.records = s.records ∧ t.pool = s.pool ∧ t.plan = s.plan ∧ t.ports = s.ports) ∧
      (j.cancel = false → s.withdrawing = false → outcome = 0 → j.stage = .one →
        t.work.jobs = s.work.jobs.map (fun x => if x.id = j.id then { x with stage := .two, attempts := 0 } else x) ∧
        t.records = s.records ∧ t.pool = s.pool ∧ t.plan = s.plan ∧
        match j.kind with
        | .promote slots =>
          t.work.migQueue = s.work.migQueue ++ [⟨j.id, .slotWrite j.id slots⟩] ∧ t.work.dQueue = s.work.dQueue
        | .writeback mask =>
          t.work.dQueue = s.work.dQueue ++ [⟨j.id, .platterWrite j.id j.first j.len mask⟩] ∧
          t.work.migQueue = s.work.migQueue)

/-- A job whose stage 2 order is finished DONE completes, if the journal takes its EXTENT_SET: a promoted record
becomes MIRRORED with the reservation as its slot list; a record written back keeps as dirty the grains outside the
snapshot and those rewritten, and becomes MIRRORED where none is left (R18, R19, R118); the entry describes the record
as it is then. Otherwise the job enters COMPLETING, and completes by an event of its own once the journal takes the
entry. No slot of its record awaits retirement. The words that its reads correct are counted, the command bringing
their number (R189; log 7). -/
def Obligations.JobCompletes : Prop :=
  ∀ (s : State) (l : Link) (tag gen corrected : Nat) (o : Order) (j : Job), extentsSound s.records → s.enduring = true →
    s.calm = true → s.isRetiring j.record = false → (s.work.jobs.map (fun x => x.id)).Nodup →
    (∃ r ∈ s.records, r.id = j.record) → s.jrn.lastJsn ≤ 4294967295 →
    let others := s.work.jobs.filter (fun x => x.id ≠ j.id)
    let completes := fun (t : State) =>
      t.work.jobs = others ∧ t.pool = s.pool ∧ s.keepsLists t ∧
        (∀ r ∈ t.records, r.id = j.record → s.journaled t [.extentSet r.described]) ∧
        match j.kind with
        | .promote slots =>
          t.records = s.records.map (fun r =>
            if r.id = j.record then { r with state := .mirrored, slots := slots, dirty := 0 } else r)
        | .writeback mask =>
          t.records = s.records.map (fun r =>
            if r.id = j.record then
              let left := (r.dirty &&& ~~~mask) ||| r.rewrite
              if left = 0 then
                { r with state := .mirrored, dirty := 0, rewrite := 0, attempts := 0, wbFailed := false }
              else { r with state := .dirty, dirty := left, rewrite := 0 }
            else r)
    let fits := (s.completionChange j).fits
    (s.ready l tag = true → tag < 16 → s.recovery.service ≠ .waiting → l ≠ .iLink → gen ≤ 15 → o.id < 8 →
      s.fenceMet l o.id gen = false → s.issuedOrder l o.id gen = some o → s.jobOf o.id = some j →
      (match o.body with
        | .pageRead _ | .pageWrite _ _ => False
        | _ => True) →
      j.cancel = false → j.stage = .two →
      ∃ t, exec (.finish l tag o.id gen 0 none corrected) s = .next (t.afterReads corrected) ∧
        t.sent = s.sent ++ [replyTo (.finish o.id gen 0 none) l tag .ok .empty] ∧
        (fits = true → completes t) ∧
        (fits = false →
          t.work.jobs = s.work.jobs.map (fun x => if x.id = j.id then { x with stage := .completing } else x) ∧
          t.work.completing = s.work.completing ++ [j.id] ∧ t.records = s.records ∧ t.pool = s.pool ∧
          t.jrn.lastJsn = s.jrn.lastJsn)) ∧
    (s.awake = true → s.work.completing.head? = some j.id → s.jobOf j.id = some j →
      ∃ t, exec (.completingJobCompletion corrected) s = .next (t.afterReads corrected) ∧ t.sent = s.sent ∧
        (fits = true → completes t) ∧
        (fits = false → t.work.jobs = s.work.jobs ∧ t.records = s.records ∧ t.pool = s.pool ∧
          t.jrn.lastJsn = s.jrn.lastJsn))

/-- A journal page reported DONE raises the durable JSN to the highest JSN at which every entry since the old one has
stood in a page reported DONE (R150); in JOURNAL_FAULT the pages before the failed page count alone, so that it does not
rise past their entries (R152; log 54). Quarantined slots whose JSN it has reached leave from the head, and every SYNC
whose target it has reached is answered (R82, R150), before the FINISH itself (log 37). A third failure of one PSN puts
the journal in JOURNAL_FAULT, in place of an earlier PSN, the lower of the two pages bounding the durable JSN (log 15),
raises its notice on the I-link and the F-link, answers every waiting SYNC HOLD, and ends a quiesce: its POWER is
answered HOLD, and the mode returns (R151, R152, R179). When the durable JSN reaches the CKPT_END of a pass, the pass
completes: the tail moves to the page of its CKPT_BEGIN, and a quiesce toward HIBERNATE that asked for it is told; below
it the pass and the tail stay (R150, R155, R178). In RESTATE the durable JSN rises in the same way, and with the pass
the part serves, RESERVE_SLOTS within a quarter of SLOT_COUNT, RECOVERY_DONE raised with the last JSN assigned (R87,
R171). In JOURNAL_FAULT the pass stands where it stopped until the reset that abandons it, and in RESTATE the part stays
in RECOVERING (R152, R157, R171; log 65). The words that its reads correct are counted, the command bringing their
number (R189; log 7). -/
def Obligations.PageWriteOutcomes : Prop :=
  let syncs := fun (p : Nat → Bool) (a : Accepted) =>
    match a.standing with
    | .syncWaits x => p x
    | _ => false
  let owner := fun (tag id gen outcome : Nat) => replyTo (.finish id gen outcome none) .fLink tag .ok .empty
  let rises := fun (s t : State) (page : Page) (own : Reply) =>
    let runs : List WrittenRun := s.jrn.written ++ [⟨page.firstJsn, page.entries.length⟩]
    let behind := fun (r : WrittenRun) => ∃ f, s.jrn.fault = some f ∧ jsnLe f.first r.first = true
    let written := fun (j : Nat) => ∃ r ∈ runs, ¬behind r ∧ jsnSteps r.first j < r.count
    let durable := t.jrn.durableJsn
    let out := s.pool.quarantine.takeWhile (fun q => jsnLe q.jsn durable)
    let list := (s.port .iLink).accepted
    (s.jrn.durableJsn ≤ 4294967295 → (∀ r ∈ runs, 1 ≤ r.first ∧ r.first ≤ 4294967295) →
      (runs.map (fun r => r.count)).sum < 2 ^ 31 →
      (∃ n, durable = jsnAdd s.jrn.durableJsn n ∧
        ∀ m, 1 ≤ m → m ≤ n → written (jsnAdd s.jrn.durableJsn m)) ∧ ¬written (jsnNext durable)) ∧
    (∀ r ∈ runs, 0 < r.count → jsnLe (jsnAdd r.first (r.count - 1)) durable = false → r ∈ t.jrn.written) ∧
    t.pool.quarantine = s.pool.quarantine.dropWhile (fun q => jsnLe q.jsn durable) ∧
    t.pool.free = s.pool.free ++ (out.filter (fun q => !q.retire)).map (fun q => q.slot) ∧
    (∀ n, n ∈ t.pool.retired ↔ n ∈ s.pool.retired ∨ ∃ q ∈ out, q.slot = n ∧ q.retire = true) ∧
    (t.port .iLink).accepted = list.filter (fun a => !syncs (fun x => jsnLe x durable) a) ∧
    t.sent = s.sent ++ list.filterMap (fun a =>
      match a.standing with
      | .syncWaits x => if jsnLe x durable then some (a.reply .iLink .ok (.jsn x)) else none
      | _ => none) ++ [own]
  (∀ (s : State) (tag gen outcome index corrected : Nat) (o : Order) (page : Page), s.serves .fLink tag = true →
    s.enduring = true → gen ≤ 15 → outcome ≤ 2 → 8 ≤ o.id → o.id ≤ 31 → s.fenceMet .fLink o.id gen = false →
    s.issuedOrder .fLink o.id gen = some o → o.body = .pageWrite index page → s.recovery.format = none →
    s.recovery.phase = .none →
    let powers := fun (a : Accepted) => s.quiescing && decide (a.standing = .powerWaits)
    let list := (s.port .iLink).accepted
    let own := owner tag o.id gen outcome
    ∃ t : State, exec (.finish .fLink tag o.id gen outcome none corrected) s = .next (t.afterReads corrected) ∧
      t.work.fIssued = s.work.fIssued.filter (fun x => x.id ≠ o.id) ∧ t.work.jobs = s.work.jobs ∧ t.map = s.map ∧
      (outcome = 0 → rises s t page own ∧ ∀ (p : Pass) (last : Nat), s.jrn.pass = some p → p.phase = .ended last →
        let reached := s.jrn.fault = none ∧ jsnLe last t.jrn.durableJsn = true
        (reached → t.jrn.pass = none ∧ t.jrn.tail = p.beginPsn ∧
          t.supply = { s.supply with mode :=
            match s.supply.mode with
            | .quiescing .hibernate returnDoze passDone => .quiescing .hibernate returnDoze (passDone || p.answers)
            | m => m }) ∧
        (¬reached → t.jrn.pass = s.jrn.pass ∧ t.jrn.tail = s.jrn.tail ∧ t.supply = s.supply)) ∧
      (outcome ≠ 0 →
        t.jrn.durableJsn = s.jrn.durableJsn ∧ t.pool = s.pool ∧
        (s.jrn.attemptsOf page.psn + 1 < 3 →
          t.jrn.fault = s.jrn.fault ∧ t.sent = s.sent ++ [own] ∧ t.supply = s.supply) ∧
        (3 ≤ s.jrn.attemptsOf page.psn + 1 →
          t.jrn.fault = some ⟨page.psn, match s.jrn.fault with
            | none => page.firstJsn
            | some f => if jsnLe f.first page.firstJsn then f.first else page.firstJsn⟩ ∧
          (∀ i ∈ t.jrn.images, i.page.psn ≠ page.psn) ∧
          Notice.journalFault page.psn ∈ (t.port .iLink).notices ∧
          Notice.journalFault page.psn ∈ (t.port .fLink).notices ∧
          t.supply = { s.supply with mode :=
            match s.supply.mode with
            | .quiescing _ returnDoze _ => if returnDoze then .doze else .run
            | m => m } ∧
          (t.port .iLink).accepted = list.filter (fun a => !syncs (fun _ => true) a && !powers a) ∧
          t.sent = s.sent ++ (list.filter (syncs (fun _ => true))).map (fun a => a.reply .iLink .hold .empty) ++
            (list.filter powers).map (fun a => a.reply .iLink .hold .empty) ++ [own]))) ∧
  ∀ (s : State) (tag gen index corrected last : Nat) (o : Order) (page : Page) (p : Pass), s.ready .fLink tag = true →
    tag < 16 → s.supply.mode = .run → s.recovery.service = .recovering → s.recovery.phase = .restate →
    s.recovery.format = none → gen ≤ 15 → 8 ≤ o.id → o.id ≤ 31 → s.fenceMet .fLink o.id gen = false →
    s.issuedOrder .fLink o.id gen = some o → o.body = .pageWrite index page → s.jrn.pass = some p →
    p.phase = .ended last →
    ∃ t : State, exec (.finish .fLink tag o.id gen 0 none corrected) s = .next (t.afterReads corrected) ∧
      t.work.fIssued = s.work.fIssued.filter (fun x => x.id ≠ o.id) ∧ t.map = s.map ∧
      rises s t page (owner tag o.id gen 0) ∧ t.jrn.lastJsn = s.jrn.lastJsn ∧ t.jrn.fault = s.jrn.fault ∧
      let reached := s.jrn.fault = none ∧ jsnLe last t.jrn.durableJsn = true
      (reached →
        t.jrn.pass = none ∧ t.jrn.tail = p.beginPsn ∧
        t.recovery = { s.recovery with service := .serving, phase := .none } ∧
        t.params = { s.params with reserveSlots := min s.params.reserveSlots (s.map.slotCount / 4) } ∧
        Notice.recoveryDone s.jrn.lastJsn ∈ (t.port .iLink).notices) ∧
      (¬reached →
        t.jrn.pass = s.jrn.pass ∧ t.jrn.tail = s.jrn.tail ∧ t.recovery = s.recovery ∧ t.params = s.params ∧
        (t.pool.retired.length = s.pool.retired.length → t.plan = s.plan)) ∧
      s.changesOnly t [.sent, .ports, .params, .pool, .plan, .work, .jrn, .recovery]

/-! ## Reads of the ring -/

/-- The FINISH of a PAGE_READ during the hunt. ABORTED puts the order back at the head of the page class, twice;
FAILED, a third ABORTED and a DONE whose image is not valid for its index make the page invalid (R164). A valid index 0
gives the reference lap, low 0 and high P (R165); an invalid one has index P - 1 read, which, valid, gives the lap
after its own, low 0 and high P - 1, and, invalid too, ends the hunt in BLANK (R166). Each page read then halves the
bounds: valid and of the lap, low becomes its index and it the head candidate, and otherwise high does. While high -
low exceeds 1 the middle index is read next; at the end the replay begins at the tail in the head candidate's header,
or at the candidate itself where the tail lies above it, or at head - P + 1 where it lies P or more below,
MAP_TRUNCATED raised with it (R167; log 20 for the detail). The largest epoch of the valid pages is kept (R164). The
words that its reads correct are counted, the command bringing their number (R189; log 7). -/
def Obligations.HuntReads : Prop :=
  ∀ (s : State) (tag gen outcome index corrected : Nat) (o : Order) (image : Option (List Byte)) (h : Hunt),
    s.ready .fLink tag = true → tag < 16 → s.steady = true → s.recovery.service = .recovering →
    s.recovery.phase = .hunt h → 2048 ≤ s.recovery.ringPages → gen ≤ 15 → outcome ≤ 2 → 8 ≤ o.id → o.id ≤ 31 →
    (Request.finish o.id gen outcome image).fits = true → s.fenceMet .fLink o.id gen = false →
    s.issuedOrder .fLink o.id gen = some o → o.body = .pageRead index → image.isSome = decide (outcome = 0) →
    s.jrn.page = none → s.jrn.images = [] →
    let ring := s.recovery.ringPages
    let valid := fun (p : Page) => p.psn % ring = h.reading.index ∧ 1024 ≤ p.slotCount ∧ p.slotCount ≤ 1048576 ∧
      65536 ≤ p.diskGrains ∧ p.diskGrains ≤ 268435456
    let read := fun (p : Page) => outcome = 0 ∧ image.bind Page.read = some p ∧ valid p
    let invalid := (∀ p, ¬read p) ∧ ¬(outcome = 2 ∧ h.reading.attempts + 1 < 3)
    let header := fun (p : Page) =>
      ({ psn := p.psn, tail := p.tail, slotCount := p.slotCount, diskGrains := p.diskGrains } : PageHeader)
    let asks := fun (t : State) (r : Reading) => r.attempts = 0 ∧
      (s.work.pageFences = [] → (∀ x ∈ s.work.pageQueue, x.id ≠ o.id) → r.ordered = true ∧ ∃ id, 8 ≤ id ∧ id ≤ 31 ∧
        t.work.pageQueue = s.work.pageQueue ++ [⟨id, .pageRead r.index⟩])
    let reads := fun (t : State) (x : Hunt) (at_ : Nat) => ∃ r, asks t r ∧ r.index = at_ ∧
      t.recovery = { s.recovery with phase := .hunt { x with reading := r } } ∧ t.map = s.map
    let blank := fun (t : State) =>
      t.recovery = { s.recovery with service := .blank, phase := .none, format := none } ∧
      t.map = { s.map with slotCount := 0, diskGrains := 0 }
    let replays := fun (t : State) (c : PageHeader) (epoch : Nat) =>
      let far := c.tail ≤ c.psn ∧ c.tail + ring ≤ c.psn
      let tail := if c.psn < c.tail then c.psn else if far then c.psn - ring + 1 else c.tail
      (∃ r, asks t r ∧ r.index = tail % ring ∧
        t.recovery.phase = .replay
          { candidate := c, next := tail, expected := none, lastJsn := 0, largestEpoch := epoch, largestCkpt := none
            tail := tail, retired := [], reading := r } ∧
        t.recovery = { s.recovery with phase := t.recovery.phase }) ∧
      (far → Notice.mapTruncated c.tail ∈ (t.port .iLink).notices) ∧ t.map = s.map
    let goesOn := fun (t : State) (x : Hunt) =>
      (1 < x.high - x.low → reads t { x with stage := .halving } ((x.low + x.high) / 2)) ∧
      (x.high - x.low ≤ 1 →
        (x.candidate = none → blank t) ∧ ∀ c, x.candidate = some c → replays t c x.largestEpoch)
    ∃ t, exec (.finish .fLink tag o.id gen outcome image corrected) s = .next (t.afterReads corrected) ∧
      t.sent = s.sent ++ [replyTo (.finish o.id gen outcome image) .fLink tag .ok .empty] ∧
      t.work.fIssued = s.work.fIssued.filter (fun x => x.id ≠ o.id) ∧ s.keepsLists t ∧
      s.changesOnly t [.sent, .ports, .map, .work, .recovery] ∧
      (outcome = 2 → h.reading.attempts + 1 < 3 →
        (h.reading.ordered = true → t.recovery.phase =
          .hunt { h with reading := { h.reading with attempts := h.reading.attempts + 1 } }) ∧
        t.recovery = { s.recovery with phase := t.recovery.phase } ∧ t.map = s.map ∧
        (h.reading.ordered = true → t.work.pageQueue = o :: s.work.pageQueue)) ∧
      (h.stage = .zero → ∀ p, read p →
        goesOn t { h with
          lap := p.psn / ring, low := 0, high := ring, candidate := some (header p)
          largestEpoch := max h.largestEpoch p.epoch }) ∧
      (h.stage = .zero → invalid → reads t { h with stage := .last, fallback := true } (ring - 1)) ∧
      (h.stage = .last → ∀ p, read p →
        goesOn t { h with
          lap := p.psn / ring + 1, low := 0, high := ring - 1, candidate := some (header p)
          largestEpoch := max h.largestEpoch p.epoch }) ∧
      (h.stage = .last → invalid → blank t) ∧
      (h.stage = .halving → ∀ p, read p →
        let x := { h with largestEpoch := max h.largestEpoch p.epoch }
        if p.psn / ring = h.lap then goesOn t { x with low := h.reading.index, candidate := some (header p) }
        else goesOn t { x with high := h.reading.index }) ∧
      (h.stage = .halving → invalid → goesOn t { h with high := h.reading.index })

/-- The replay. An entry that sets an extent removes every record that it meets or that names one of its slots, and
makes its record under the lowest free id (R168), or, with no place free, under that of the unpinned TRACKED record of
lowest stored heat, the one of lowest first grain among equals, and where none is left MAP_TRUNCATED is raised (R169).
Commits, drops, retired slots and checkpoint numbers act as the table of R168 says. The FINISH of a PAGE_READ applies a
page that is valid, has the PSN and the first JSN expected and the head candidate's sizes, and names nothing beyond
them, and reads the page after it (R164, R167). The first page that fails stops the replay, MAP_TRUNCATED raised with
its PSN. At the end, or so stopped, records with absorb-open are dropped, each with an EXTENT_DROP in the page after
the head candidate's, the sizes, slot pool, epoch, dirty list, parameters and journal take the values of R170, and the
part serves, RECOVERY_DONE raised with the last JSN assigned. Stopped, or with no room in the ring for its next page,
it stands in RESTATE instead (R171). What no rule gives, a detail, a last JSN of none, an entry without room, the
arming left unjudged until the part serves, the checkpoint number modulo 2^32, a retired slot of a dropped record, is
the model's (logs 17, 20, 21, 25, 34, 60). The words that its reads correct are counted, the command bringing their
number (R189; log 7). -/
def Obligations.ReplayReads : Prop :=
  (∀ (u : State) (x : Replay) (psn : Nat) (e : Entry), (u.records.map (fun r => r.id)).Nodup →
    (∀ r ∈ u.records, r.id < 16384) →
    let v := (replayEntry psn (u, x) e).1
    let y := (replayEntry psn (u, x) e).2
    let sets := fun (b : ExtentBody) (absorbing : Bool) =>
      let kept := u.records.filter (fun r =>
        !(decide (r.first < b.first + b.len) && decide (b.first < r.first + r.len)) &&
          !r.slots.any (fun n => n ∈ b.slots))
      let made := fun (id : Nat) =>
        ({ id := id, first := b.first, len := b.len, heat := b.heat, epoch := b.epoch, slots := b.slots
           state := match b.state with
             | .tracked => .tracked
             | .mirrored => .mirrored
             | .dirty => .dirty
           dirty := b.dirty, rewrite := 0, openWrites := 0, attempts := 0, pinned := b.pinned
           absorbOpen := absorbing, wbFailed := false } : Rec)
      let spare := fun (r : Rec) => r ∈ kept ∧ r.state = .tracked ∧ r.pinned = false
      y = x ∧
      (kept.length < 16384 → ∃ id, (∀ r ∈ kept, r.id ≠ id) ∧ (∀ k, k < id → ∃ r ∈ kept, r.id = k) ∧
        ∀ r, r ∈ v.records ↔ r = made id ∨ r ∈ kept) ∧
      (kept.length = 16384 → (∀ r, ¬spare r) →
        v.records = kept ∧ Notice.mapTruncated psn ∈ (v.port .iLink).notices) ∧
      (kept.length = 16384 → (∃ r, spare r) → ∃ out, spare out ∧
        (∀ r, spare r → out.heat < r.heat ∨ (out.heat = r.heat ∧ out.first ≤ r.first)) ∧
        ∀ r, r ∈ v.records ↔ r = made out.id ∨ (r ∈ kept ∧ r.id ≠ out.id))
    match e with
    | .extentSet b | .ckptRecord b => sets b b.absorbOpen
    | .absorbOpen b => sets b true
    | .absorbCommit g =>
      v.records = u.records.map (fun r => if r.first = g then { r with absorbOpen := false } else r) ∧ y = x
    | .extentDrop g n =>
      v.records = u.records.filter (fun r => !(decide (g ≤ r.first) && decide (r.first + r.len ≤ g + n))) ∧ y = x
    | .slotRetire n =>
      v = u ∧ y = { x with retired := y.retired } ∧ ∀ m, m ∈ y.retired ↔ m = n ∨ m ∈ x.retired
    | .ckptRetired ss =>
      v = u ∧ y = { x with retired := y.retired } ∧ ∀ m, m ∈ y.retired ↔ m ∈ ss ∨ m ∈ x.retired
    | .ckptBegin n | .ckptEnd n => v = u ∧ y = { x with largestCkpt := some (max (x.largestCkpt.getD 0) n) }) ∧
  ∀ (s : State) (tag gen outcome index corrected : Nat) (o : Order) (image : Option (List Byte)) (r : Replay),
    s.ready .fLink tag = true → tag < 16 → s.supply.mode = .run → s.recovery.service = .recovering →
    s.recovery.phase = .replay r → s.recovery.format = none → 2048 ≤ s.recovery.ringPages → gen ≤ 15 → outcome ≤ 2 → 8 ≤ o.id → o.id ≤ 31 →
    (Request.finish o.id gen outcome image).fits = true → s.fenceMet .fLink o.id gen = false →
    s.issuedOrder .fLink o.id gen = some o → o.body = .pageRead index → image.isSome = decide (outcome = 0) →
    s.jrn.page = none → s.jrn.images = [] →
    let ring := s.recovery.ringPages
    let cand := r.candidate
    let again := outcome = 2 ∧ r.reading.attempts + 1 < 3
    let whole := fun (g n : Nat) => 1 ≤ n ∧ n ≤ 64 ∧ g / 64 = (g + n - 1) / 64 ∧ g + n ≤ cand.diskGrains
    let slots := fun (ns : List Nat) => ∀ n ∈ ns, n < cand.slotCount
    let within := fun (e : Entry) =>
      match e with
      | .extentSet b | .absorbOpen b | .ckptRecord b => whole b.first b.len ∧ slots b.slots
      | .extentDrop g n => whole g n
      | .slotRetire n => slots [n]
      | .ckptRetired ss => slots ss
      | .absorbCommit _ | .ckptBegin _ | .ckptEnd _ => True
    let read := fun (p : Page) => outcome = 0 ∧ image.bind Page.read = some p ∧ p.psn % ring = r.reading.index ∧
      1024 ≤ p.slotCount ∧ p.slotCount ≤ 1048576 ∧ 65536 ≤ p.diskGrains ∧ p.diskGrains ≤ 268435456
    let applies := fun (p : Page) => read p ∧ p.psn = r.next ∧ p.slotCount = cand.slotCount ∧
      p.diskGrains = cand.diskGrains ∧ (∀ e ∈ p.entries, within e) ∧ ∀ j, r.expected = some j → p.firstJsn = j
    let ended := fun (t : State) (records : List Rec) (retired : List Nat) (last : Nat) (epoch : Nat)
        (ckpt : Option Nat) (restate : Bool) =>
      let kept := records.filter (fun x => !x.absorbOpen)
      let opens := records.filter (fun x => x.absorbOpen)
      let held := fun (n : Nat) => ∃ x ∈ kept, n ∈ x.slots
      t.records = kept ∧ t.map.slotCount = cand.slotCount ∧ t.map.diskGrains = cand.diskGrains ∧
      t.params = { s.params with reserveSlots := min s.params.reserveSlots (cand.slotCount / 4) } ∧
      (∀ n, n ∈ t.pool.retired ↔ n ∈ retired ∧ ¬held n) ∧
      (∀ n, n ∈ t.pool.free ↔ n < cand.slotCount ∧ ¬held n ∧ n ∉ retired) ∧ t.pool.free.Pairwise (fun a b => a < b) ∧
      t.pool.quarantine = [] ∧ t.pool.pendingRetire = [] ∧ t.heat = { s.heat with epoch := epoch, timer := 0 } ∧
      t.plan =
        { candidates := [], victims := [], cursor := none, rebuild := none, tickPending := false
          dirtyList := (kept.filter (fun x => x.state = .dirty)).map (fun x => x.id)
          armed := restate || decide (t.dirtyGrains < t.highMark ∨ s.work.spindle = .spinning) } ∧
      t.jrn.durableJsn = last ∧ t.jrn.head = cand.psn + 1 ∧ t.jrn.tail = r.tail ∧ t.jrn.fault = none ∧
      t.jrn.nextCkpt = (match ckpt with
        | none => 0
        | some n => (n + 1) % 2 ^ 32) ∧
      (opens.length ≤ 64 → cand.psn < 4294967295 → last ≤ 4294967295 →
        t.jrn.lastJsn = jsnAdd last opens.length ∧ ∃ q, t.jrn.page = some q ∧ q.firstJsn = jsnNext last ∧
          q.entries = opens.map (fun x => .extentDrop x.first x.len)) ∧
      (restate = true → t.recovery = { s.recovery with phase := .restate }) ∧
      (restate = false → t.recovery = { s.recovery with service := .serving, phase := .none } ∧
        Notice.recoveryDone t.jrn.lastJsn ∈ (t.port .iLink).notices)
    ∃ t, exec (.finish .fLink tag o.id gen outcome image corrected) s = .next (t.afterReads corrected) ∧
      t.sent = s.sent ++ [replyTo (.finish o.id gen outcome image) .fLink tag .ok .empty] ∧
      t.work.fIssued = s.work.fIssued.filter (fun x => x.id ≠ o.id) ∧ s.keepsLists t ∧
      s.changesOnly t [.sent, .ports, .params, .map, .heat, .pool, .plan, .work, .jrn, .recovery] ∧
      (again →
        (r.reading.ordered = true → t.recovery.phase =
          .replay { r with reading := { r.reading with attempts := r.reading.attempts + 1 } }) ∧
        t.recovery = { s.recovery with phase := t.recovery.phase } ∧
        (r.reading.ordered = true → t.work.pageQueue = o :: s.work.pageQueue) ∧ t.map = s.map ∧ t.jrn = s.jrn) ∧
      (¬again → (∀ p, ¬applies p) →
        let epoch := fun (e : Nat) => (∀ p, read p → e = max r.largestEpoch p.epoch) ∧
          ((∀ p, ¬read p) → e = r.largestEpoch)
        (∃ e, epoch e ∧ ended t s.records r.retired r.lastJsn e r.largestCkpt true) ∧
        Notice.mapTruncated r.next ∈ (t.port .iLink).notices) ∧
      ∀ p, applies p →
        let x := p.entries.foldl (replayEntry p.psn) (s, { r with largestEpoch := max r.largestEpoch p.epoch })
        let last :=
          if p.psn = 0 then 0
          else if p.entries = [] then (if r.expected = none then p.firstJsn - 1 else r.lastJsn)
          else jsnAdd p.firstJsn (p.entries.length - 1)
        (p.psn = cand.psn →
          ended t x.1.records x.2.retired last x.2.largestEpoch x.2.largestCkpt
            (decide (r.tail + ring ≤ cand.psn + 1))) ∧
        (p.psn ≠ cand.psn → t.records = x.1.records ∧ t.jrn = s.jrn ∧ t.pool = s.pool ∧
          ∃ q, q.attempts = 0 ∧ q.index = (r.next + 1) % ring ∧
            t.recovery.phase = .replay
              { x.2 with
                next := r.next + 1, lastJsn := last, reading := q
                expected := some (if p.psn = 0 then 1 else jsnAdd p.firstJsn p.entries.length) } ∧
            t.recovery = { s.recovery with phase := t.recovery.phase } ∧
            (s.work.pageFences = [] → (∀ x ∈ s.work.pageQueue, x.id ≠ o.id) → q.ordered = true ∧
              ∃ id, 8 ≤ id ∧ id ≤ 31 ∧ t.work.pageQueue = s.work.pageQueue ++ [⟨id, .pageRead q.index⟩]))

/-! ## Recovery, power, supply and resets -/

/-- ATTACH in WAITING: a page count outside 2,048 to 65,536 is answered RANGE and changes nothing; one in range is kept
as P and answered OK, and the part enters RECOVERING with phase HUNT. Outside WAITING it is answered NOT_PERMITTED and
leaves P as it is. A step that makes no cold start keeps P (R163). The words that its reads correct are counted, the
command bringing their number (R189; log 7). -/
def Obligations.AttachBeginsHunt : Prop :=
  (∀ (s : State) (tag pages corrected : Nat), s.ready .fLink tag = true → tag < 16 → pages < 2 ^ 32 → s.steady = true →
    s.calm = true →
    let r := Request.attach pages
    let refused := fun (c : ReplyCode) => s.send (replyTo r .fLink tag c .empty)
    (s.recovery.service ≠ .waiting → exec (.attach tag pages corrected) s = .next (refused .notPermitted)) ∧
    (s.recovery.service = .waiting → pages < 2048 ∨ 65536 < pages →
      exec (.attach tag pages corrected) s = .next ((refused .range).afterReads corrected)) ∧
    (s.recovery.service = .waiting → 2048 ≤ pages → pages ≤ 65536 →
      ∃ t, exec (.attach tag pages corrected) s = .next (t.afterReads corrected) ∧
      t.sent = s.sent ++ [replyTo r .fLink tag .ok .empty] ∧ t.recovery.service = .recovering ∧
      (∃ h, t.recovery.phase = .hunt h ∧ h.stage = .zero ∧ h.reading.index = 0) ∧ t.recovery.ringPages = pages ∧
      s.keepsLists t ∧ s.changesOnly t [.sent, .ports, .work, .recovery])) ∧
  ∀ s t : State, s.recovery.service ≠ .waiting → s.supply.mode ≠ .hibernate → step s = .next t →
    t.recovery.service ≠ .waiting → t.recovery.ringPages = s.recovery.ringPages

/-- The part moves between the five service states by the causes of R161 and by no others: ATTACH out of WAITING,
FORMAT out of BLANK, a FINISH or a withdrawal into SERVING, a FINISH into BLANK, a warm start into RESUME out of
SERVING and into HUNT out of RECOVERING, BLANK and FORMATTING, a map loss into HUNT out of SERVING, RECOVERING and
FORMATTING, and into WAITING the end of a power-on or brown-out reset. Out of HIBERNATE every wake is a cold start,
after which the request that made it is served (R181; log 12). -/
def Obligations.ServiceStateMoves : Prop :=
  ∀ (s t : State) (c : Instr), s.serviceSound → exec c s = .next t →
    let hunts := fun (u : State) => ∃ h, u.recovery.phase = .hunt h
    let finishes := ∃ l tag id g out img n, c = .finish l tag id g out img n
    (s.supply.mode = .hibernate →
      t.recovery.service = s.recovery.service ∨ t.recovery.service = .waiting ∨
        (t.recovery.service = .recovering ∧ hunts t ∧ ∃ tag p n, c = .attach tag p n)) ∧
    (s.supply.mode ≠ .hibernate →
      (t.recovery.service = s.recovery.service ∨
        match t.recovery.service with
        | .waiting => s.supply.heldLowest ≠ none ∧
          ((∃ v, c = .coldStart v) ∨ (∃ b v n, c = .warningStart b v n) ∨ (∃ b v, c = .clearingFilter b v) ∨
            ∃ v n, c = .brownOut v n)
        | .blank => finishes ∧ (s.recovery.service = .formatting ∨ hunts s)
        | .formatting => s.recovery.service = .blank ∧ ∃ tag a b n, c = .format tag a b n
        | .serving =>
          (finishes ∧
            (s.recovery.service = .formatting ∨ s.recovery.phase = .restate ∨ ∃ r, s.recovery.phase = .replay r)) ∨
          (s.recovery.phase = .resume ∧ ∃ n, c = .withdrawal n)
        | .recovering =>
          (s.recovery.service = .waiting ∧ hunts t ∧ ∃ tag p n, c = .attach tag p n) ∨
          (s.recovery.service = .serving ∧ t.recovery.phase = .resume ∧
            ((∃ n, c = .warmStart n) ∨ ∃ tag n, c = .reset tag n)) ∨
          ((s.recovery.service = .blank ∨ s.recovery.service = .formatting) ∧ hunts t ∧ ∃ n, c = .warmStart n) ∨
          ((s.recovery.service = .serving ∨ s.recovery.service = .formatting) ∧ hunts t ∧ ∃ n, c = .mapLoss n)) ∧
      (s.recovery.service = .recovering → ¬hunts s → hunts t → (∃ n, c = .warmStart n) ∨ ∃ n, c = .mapLoss n))

/-- FORMAT in BLANK is answered HOLD under the warning (R184). Otherwise it stores its sizes clamped to their ranges,
puts every slot in the free pool, sets the epoch to 0 and the map empty, makes the format page, and waits. The FINISH
of the format page: DONE lets the part serve from an empty journal whose page 1 is open, and answers the FORMAT OK with
the sizes stored, before the FINISH itself (log 37); FAILED or ABORTED puts its order back at the head of the page
class, and the third of them takes the part back to BLANK, its sizes 0, the FORMAT answered RETRY (R172). The words
that its reads correct are counted, the command bringing their number (R189; log 7). -/
def Obligations.FormatBegins : Prop :=
  (∀ (s : State) (tag slots grains corrected : Nat), s.ready .fLink tag = true → tag < 16 → slots < 2 ^ 32 →
    grains < 2 ^ 32 →
    s.steady = true → s.recovery.service = .blank →
    let r := Request.format slots grains
    let count := max 1024 (min 1048576 slots)
    (s.supply.warning = true →
      exec (.format tag slots grains corrected) s =
        .next ((s.send (replyTo r .fLink tag .hold .empty)).afterReads corrected)) ∧
    (s.supply.warning = false → ∃ t, exec (.format tag slots grains corrected) s = .next (t.afterReads corrected) ∧
      t.sent = s.sent ∧
      (t.port .fLink).accepted = (s.port .fLink).accepted ++
        [{ frame := requestFrame r tag, duplicate := false, standing := .formatWaits }] ∧
      t.recovery.service = .formatting ∧ t.recovery.ringPages = s.recovery.ringPages ∧
      t.map = { records := [], untracked := s.map.untracked, slotCount := count
                diskGrains := max 65536 (min 268435456 grains), sweepNew := false, passNew := false } ∧
      t.pool = { free := List.range count, quarantine := [], retired := [], pendingRetire := [] } ∧
      t.heat.epoch = 0 ∧ t.heat.timer = 0 ∧
      t.params = { s.params with reserveSlots := min s.params.reserveSlots (count / 4) } ∧
      (s.freePageId ≠ none → s.indexFenced 0 = false → ∃ id, s.freePageId = some id ∧
        t.work.pageQueue = s.work.pageQueue ++
          [⟨id, .pageWrite 0
            { psn := 0, firstJsn := 0, epoch := 0, tail := 0, slotCount := count
              diskGrains := max 65536 (min 268435456 grains), entries := [.ckptBegin 0, .ckptEnd 0] }⟩]) ∧
      s.changesOnly t [.ports, .params, .map, .heat, .pool, .work, .recovery])) ∧
  ∀ (s : State) (tag gen outcome index corrected : Nat) (o : Order) (page : Page) (f : FormatWrite),
    s.ready .fLink tag = true →
    tag < 16 → s.steady = true → s.recovery.service = .formatting → s.recovery.phase = .none →
    s.recovery.format = some f → gen ≤ 15 → outcome ≤ 2 → 8 ≤ o.id → o.id ≤ 31 → s.fenceMet .fLink o.id gen = false →
    s.issuedOrder .fLink o.id gen = some o → o.body = .pageWrite index page →
    let waits := fun (a : Accepted) => decide (a.standing = .formatWaits)
    let answered := fun (t : State) (c : ReplyCode) (b : ReplyBody) =>
      t.sent = s.sent ++ ((s.port .fLink).accepted.filter waits).map (fun a => a.reply .fLink c b) ++
        [replyTo (.finish o.id gen outcome none) .fLink tag .ok .empty] ∧
      (t.port .fLink).accepted = (s.port .fLink).accepted.filter (fun a => !waits a)
    ∃ t : State, exec (.finish .fLink tag o.id gen outcome none corrected) s = .next (t.afterReads corrected) ∧
      t.work.fIssued = s.work.fIssued.filter (fun x => x.id ≠ o.id) ∧
      (outcome = 0 →
        answered t .ok (.sizes s.map.slotCount s.map.diskGrains) ∧
        t.recovery = { s.recovery with service := .serving, phase := .none, format := none } ∧
        t.jrn = { Journal.reset with
          head := 1, tail := 0, nextCkpt := 1
          page := some
            { firstJsn := 1, entries := [], used := 0, full := false, finalMade := false, passOnly := false
              unemitted := 0, linger := none } } ∧
        s.changesOnly t [.sent, .ports, .plan, .work, .jrn, .recovery]) ∧
      (outcome ≠ 0 → f.attempts + 1 < 3 → f.ordered = true →
        t.recovery = { s.recovery with format := some { f with attempts := f.attempts + 1 } } ∧
        t.sent = s.sent ++ [replyTo (.finish o.id gen outcome none) .fLink tag .ok .empty] ∧
        (s.jrn.images = [] → s.jrn.page = none → t.work.pageQueue = o :: s.work.pageQueue) ∧
        t.map = s.map ∧ t.pool = s.pool ∧ s.keepsLists t) ∧
      (outcome ≠ 0 → 3 ≤ f.attempts + 1 →
        answered t .retry .empty ∧
        t.recovery = { s.recovery with service := .blank, phase := .none, format := none } ∧
        t.map = { records := [], untracked := 0, slotCount := 0, diskGrains := 0
                  sweepNew := false, passNew := false } ∧
        t.pool = SlotPool.reset ∧ t.plan = Planner.reset ∧ t.jrn = Journal.reset)

/-- POWER of RUN or DOZE makes the mode and is answered with it; a value outside the four is answered RANGE (R175,
R176). POWER of RETAIN or HIBERNATE is answered HOLD in JOURNAL_FAULT (R175); otherwise it begins a quiesce toward its
target: jobs with waiting orders end, HIBERNATE asks for a checkpoint, and the request waits for open writes, jobs, a
pass and the journal (R135, R177, R178). A quiesce to RETAIN with nothing to wait for ends at once, the map memory in
self-refresh (R178, R188). A start that is owed by R110 lapses outside RUN (log 58). During a quiesce POWER of RUN or
DOZE ends it, the requested flag cleared, and POWER of RETAIN or HIBERNATE gives it a new target with the same return
mode (log 43); the POWER that waits is answered NOT_READY, and then the new one OK, or it waits in its turn (R179; the
order of the two replies, log 37). The words that its reads correct are counted, the command bringing their number
(R189; log 7). -/
def Obligations.PowerModeRequests : Prop :=
  (∀ (s : State) (tag code corrected : Nat), s.serves .iLink tag = true → code < 256 →
     s.supply.mode = .run ∨ s.supply.mode = .doze →
     let r := Request.power code
     let target : SleepMode := if code = 3 then .retain else .hibernate
     let begun := fun (t : State) => t.sent = s.sent ∧
       (t.port .iLink).accepted = (s.port .iLink).accepted ++
         [{ frame := requestFrame r tag, duplicate := false, standing := .powerWaits }] ∧
       t.supply = { s.supply with mode := .quiescing target (decide (s.supply.mode = .doze)) false } ∧
       (∀ j ∈ t.work.jobs, j ∈ s.work.jobs ∧ (j.stage = .completing ∨ s.jobIssued j = true)) ∧
       t.jrn.lastJsn = s.jrn.lastJsn ∧ t.jrn.durableJsn = s.jrn.durableJsn ∧
       (code = 4 → t.jrn.requested = true ∧ ∀ p, t.jrn.pass = some p → p.answers = false) ∧
       s.changesOnly t [.ports, .map, .pool, .plan, .work, .jrn, .supply]
     (code ≤ 1 →
       let m : Mode := if code = 0 then .run else .doze
       exec (.power tag code corrected) s = .next
         ((((s.setSupply { s.supply with mode := m }).setOwed (if code = 0 then s.owed else none)).send
           (replyTo r .iLink tag .ok (.mode m))).afterReads corrected)) ∧
     (code = 2 ∨ 4 < code →
       exec (.power tag code corrected) s =
         .next ((s.send (replyTo r .iLink tag .range .empty)).afterReads corrected)) ∧
     (code = 3 ∨ code = 4 → s.jrn.fault.isSome →
       exec (.power tag code corrected) s = .next ((s.send (replyTo r .iLink tag .hold .empty)).afterReads corrected)) ∧
     (code = 3 ∨ code = 4 → s.jrn.fault = none → (s.work.jobs.map (fun j => j.id)).Nodup →
       code = 4 ∨ 0 < s.openWrites ∨ (∃ j ∈ s.work.jobs, j.stage = .completing ∨ s.jobIssued j = true) →
       ∃ t, exec (.power tag code corrected) s = .next (t.afterReads corrected) ∧ begun t ∧
         (code = 3 → t.jrn = s.jrn)) ∧
     (code = 3 → s.jrn.fault = none → s.openWrites = 0 → s.work.jobs = [] → s.jrn.durableJsn ≠ s.jrn.lastJsn →
       ∃ t, exec (.power tag code corrected) s = .next (t.afterReads corrected) ∧ begun t ∧
         (t.hasUnemitted = true → t.jrn.pendingEmission ≠ none)) ∧
     (code = 3 → s.jrn.fault = none → s.openWrites = 0 → s.work.jobs = [] → s.hasUnemitted = false →
       s.jrn.durableJsn = s.jrn.lastJsn → (∀ a ∈ (s.port .iLink).accepted, a.standing ≠ .powerWaits) →
       exec (.power tag code corrected) s = .next
         (((((s.setSupply { s.supply with mode := .retain, memory := .selfRefresh }).setOwed none).setPlan
           { s.plan with cursor := none, rebuild := none, tickPending := false }).send
           (replyTo r .iLink tag .ok (.mode .retain))).afterReads corrected))) ∧
  ∀ (s : State) (tag code corrected : Nat) (target : SleepMode) (back passDone : Bool), s.ready .iLink tag = true →
    tag < 16 →
    s.recovery.service = .serving → s.calm = true → s.supply.mode = .quiescing target back passDone → code < 256 →
    let list := (s.port .iLink).accepted
    let refused := (list.filter (fun a => a.standing = .powerWaits)).map (fun a => a.reply .iLink .notReady .empty)
    let kept := list.filter (fun a => a.standing ≠ .powerWaits)
    (code ≤ 1 →
      let m : Mode := if code = 0 then .run else .doze
      ∃ t, exec (.power tag code corrected) s = .next (t.afterReads corrected) ∧
        t.sent = s.sent ++ refused ++ [replyTo (.power code) .iLink tag .ok (.mode m)] ∧
        (t.port .iLink).accepted = kept ∧ t.supply = { s.supply with mode := m } ∧
        t.jrn = { s.jrn with requested := false } ∧ s.changesOnly t [.sent, .ports, .supply, .jrn]) ∧
    (code = 3 ∨ code = 4 → s.work.jobs ≠ [] ∨ 0 < s.openWrites ∨ (code = 4 ∧ (target = .retain ∨ passDone = false)) →
      let new : SleepMode := if code = 3 then .retain else .hibernate
      ∃ t, exec (.power tag code corrected) s = .next (t.afterReads corrected) ∧ t.sent = s.sent ++ refused ∧
        (t.port .iLink).accepted = kept ++
          [{ frame := requestFrame (.power code) tag, duplicate := false, standing := .powerWaits }] ∧
        t.supply = { s.supply with mode := .quiescing new back (passDone && decide (new = target ∨ new = .retain)) } ∧
        t.jrn =
          (if new = target then s.jrn
           else if new = .hibernate then
             { s.jrn with requested := true, pass := s.jrn.pass.map (fun p => { p with answers := false }) }
           else { s.jrn with requested := false }) ∧
        s.changesOnly t [.sent, .ports, .supply, .jrn]) ∧
    (code = 2 ∨ 4 < code → s.steady = true →
      exec (.power tag code corrected) s =
        .next ((s.send (replyTo (.power code) .iLink tag .range .empty)).afterReads corrected))

/-- A quiesce ends in its target mode when no job exists, no write is open, its pass has completed if the target is
HIBERNATE, and the durable JSN equals the last JSN assigned; the POWER that waits is then answered OK with the mode, a
walk of the sweep is abandoned, and the map memory goes to self-refresh, or is off (R178, R188). No command enters
RETAIN or HIBERNATE otherwise: HIBERNATE is entered out of a quiesce toward it alone, whose pass had completed or
completes with the entry, its CKPT_END durable. So ends the close of the last open write, the FINISH that ends the last
job, and the FINISH of the page write that makes the last entry durable, which may complete the pass as well; the reply
to each of them goes first, and the waiting SYNC requests come before it (log 37). While entries are not durable the
first two leave the quiesce in progress, with an emission asked for. No target mode is entered while RSTn is low (log
11). A quiesce stands in a journal without a fault, which every step keeps (R175, R179; RegistersStaySound). The words
that its reads correct are counted, the command bringing their number (R189; log 7). -/
def Obligations.QuiesceEnds : Prop :=
  let mode : SleepMode → Mode := fun
    | .retain => .retain
    | .hibernate => .hibernate
  let sleeps := fun (target : SleepMode) (s t : State) =>
    t.supply = { s.supply with
      mode := mode target, memory := if target = .retain then .selfRefresh else .off } ∧
    t.plan.cursor = none ∧ t.plan.rebuild = none ∧ t.plan.tickPending = false
  let powers := fun (s : State) => (s.port .iLink).accepted.filter (fun a => a.standing = .powerWaits)
  let answers := fun (target : SleepMode) (s : State) =>
    (powers s).map (fun a => a.reply .iLink .ok (.mode (mode target)))
  (∀ (s t : State) (c : Instr) (target : SleepMode), exec c s = .next t → s.supply.mode ≠ mode target →
    t.supply.mode = mode target →
    ((∃ back done, s.supply.mode = .quiescing target back done) ∨
      ∃ tag code n, c = .power tag code n ∧ carriedIn 1 code = target.code) ∧
    (target = .hibernate → ∃ back done, s.supply.mode = .quiescing .hibernate back done ∧
      (done = true ∨ ∃ p last, s.jrn.pass = some p ∧ p.phase = .ended last ∧ p.answers = true ∧
        jsnLe last t.jrn.durableJsn = true)) ∧
    t.work.jobs = [] ∧ t.openWrites = 0 ∧ t.jrn.durableJsn = t.jrn.lastJsn ∧ t.supply.rstn = .high ∧
    t.supply.memory = (if target = .retain then .selfRefresh else .off) ∧ t.plan.cursor = none ∧
    (∀ a ∈ (t.port .iLink).accepted, a.standing ≠ .powerWaits) ∧
    ∀ a ∈ powers s, a.reply .iLink .ok (.mode (mode target)) ∈ t.sent ∨
      a.reply .iLink .notReady .empty ∈ t.sent) ∧
  ∀ (s : State) (target : SleepMode) (back passDone : Bool), s.supply.mode = .quiescing target back passDone →
    s.jrn.fault = none → s.serving = true → s.calm = true → s.pool.pendingRetire = [] → extentsSound s.records →
    (target = .retain ∨ passDone = true →
      let reaches := fun (t : State) (own : Reply) =>
        (s.hasUnemitted = false → s.jrn.durableJsn = s.jrn.lastJsn →
          sleeps target s t ∧ t.sent = s.sent ++ [own] ++ answers target s) ∧
        (s.jrn.durableJsn ≠ s.jrn.lastJsn →
          t.supply = s.supply ∧ t.sent = s.sent ++ [own] ∧
            (t.hasUnemitted = true → t.jrn.pendingEmission ≠ none))
      (∀ tag h w corrected, s.ready .iLink tag = true → tag < 16 → h ≤ 31 → s.openWrite h = some w → s.openWrites = 1 →
        s.writes.handles.length = 32 → (s.writes.get h).gen ≤ 15 → s.work.jobs = [] → s.createdBy w = [] →
        ∃ t, exec (.writeClose tag h (s.writes.get h).gen 0 corrected) s = .next (t.afterReads corrected) ∧
          reaches t (replyTo (.writeClose h (s.writes.get h).gen 0) .iLink tag .ok (.jsn w.commitJsn))) ∧
      ∀ l tag gen outcome o j corrected, s.ready l tag = true → tag < 16 → l ≠ .iLink → gen ≤ 15 → outcome ≤ 2 →
        o.id < 8 →
        s.fenceMet l o.id gen = false → s.issuedOrder l o.id gen = some o → s.work.jobs = [j] → j.id = o.id →
        (match o.body with
          | .pageRead _ | .pageWrite _ _ => False
          | _ => True) →
        s.openWrites = 0 → j.cancel = true ∨ outcome = 1 ∨ (outcome = 0 ∧ j.stage = .one) ∨ outcome = 2 →
        ∃ t, exec (.finish l tag o.id gen outcome none corrected) s = .next (t.afterReads corrected) ∧
          reaches t (replyTo (.finish o.id gen outcome none) l tag .ok .empty)) ∧
    ∀ tag gen index o page corrected, s.ready .fLink tag = true → tag < 16 → gen ≤ 15 → 8 ≤ o.id → o.id ≤ 31 →
      s.fenceMet .fLink o.id gen = false → s.issuedOrder .fLink o.id gen = some o → o.body = .pageWrite index page →
      s.recovery.format = none → s.recovery.phase = .none → s.openWrites = 0 → s.work.jobs = [] →
      s.hasUnemitted = false → s.jrn.written = [] → s.jrn.lastJsn ≤ 4294967295 →
      page.firstJsn = jsnNext s.jrn.durableJsn → page.entries ≠ [] → page.entries.length < 2 ^ 31 →
      s.jrn.lastJsn = jsnAdd page.firstJsn (page.entries.length - 1) →
      target = .retain ∨ passDone = true ∨
        (∃ p last, s.jrn.pass = some p ∧ p.phase = .ended last ∧ p.answers = true ∧ jsnLe last s.jrn.lastJsn = true) →
      ∃ t, exec (.finish .fLink tag o.id gen 0 none corrected) s = .next (t.afterReads corrected) ∧ sleeps target s t ∧
        t.jrn.durableJsn = s.jrn.lastJsn ∧
        t.sent = s.sent ++ (s.port .iLink).accepted.filterMap (fun a =>
          match a.standing with
          | .syncWaits x => if jsnLe x s.jrn.lastJsn then some (a.reply .iLink .ok (.jsn x)) else none
          | _ => none) ++ [replyTo (.finish o.id gen 0 none) .fLink tag .ok .empty] ++ answers target s

/-- What a warm start leaves, by RSTn or by RESET, which receives no reply. Everywhere: empty request lists, default
masks and parameters, the notices kept but ORDERS_READY (R198), mode RUN, a quiesce ended, the warning and its filter
kept and judged against the default threshold (R182), the spindle STOPPED, C, the time base and P kept, its cause (R34,
R179, R186, R187, R194, R200). Outside WAITING no job and no order but page orders, fences for the windows and the page
order ids of issued orders, the generations of issued ids risen (R89, R139). In RECOVERING, BLANK and FORMATTING the
map is lost with its sizes, the pool, lists and journal are as after a cold start, and a new hunt begins (R173). In
SERVING: every handle free, the generation of each that was open risen
(R77), and the open-write counts 0, with no retirement release (log 24); jobs rolled back in ascending id (R30, R91,
R139), the records of write-backs at the head of the dirty list, the candidate list empty, the victims kept, no walk,
the arming armed and then judged (R114); the pool kept but for reservations returned (R91); the journal kept, without
fault, pass and failure counts, an image for each PSN that had one (R157, R159). The part serves again at once where no
absorption is open, with RESERVE_SLOTS within a quarter of SLOT_COUNT (R87; log 26), and stands in RESUME otherwise
(R173). No slot awaits retirement in the clause on the pool. The words that its reads correct are counted, the command
bringing their number (R189; log 7). -/
def Obligations.WarmStartLeaves : Prop :=
  ∀ (s : State) (i : Instr) (cause : ResetCause) (corrected : Nat),
    (i = .warmStart corrected ∧ s.supply.rstn = .low ∧ s.supply.heldLowest = none ∧ cause = .rstn ∧
      s.supply.mode ≠ .hibernate) ∨
    (∃ tag, i = .reset tag corrected ∧ tag < 16 ∧ s.ready .iLink tag = true ∧ s.serving = true ∧
      cause = .resetRequest) →
    let issued := s.work.dIssued ++ s.work.fIssued
    let hunts := fun (t : State) => t.recovery.service = .recovering ∧ t.records = [] ∧
      t.map.slotCount = 0 ∧ t.map.diskGrains = 0 ∧ t.pool = SlotPool.reset ∧ t.plan = Planner.reset ∧
      t.jrn = Journal.reset ∧ ∃ h, t.recovery.phase = .hunt h ∧ h.stage = .zero ∧ h.reading.index = 0
    ∃ t, exec i s = .next (t.afterReads corrected) ∧ t.sent = s.sent ∧ t.recovery.ringPages = s.recovery.ringPages ∧
      (∀ l, (t.port l).accepted = [] ∧ (t.port l).mask = 0 ∧
        (t.port l).attention = (t.port l).notices.any (t.port l).unmasked ∧
        ∀ n ∈ (s.port l).notices, n.code ≠ 10 → n ∈ (t.port l).notices ∨ n.code = 4 ∨ n.code = 8 ∨ n.code = 9) ∧
      (∀ n ∈ (t.port .dLink).notices, n.code ≠ 10) ∧
      t.params = { Params.default with reserveSlots :=
        if t.recovery.service = .serving then min 4096 (t.map.slotCount / 4) else 4096 } ∧
      (let source := s.supply.pfwnLow || decide (s.supply.vdd < 4500)
       t.supply = { s.supply with
        mode := .run, cause := cause, memory := .refreshed, rstn := .high, warning := s.supply.warning || source
        filter :=
          if s.supply.warning = true then
            if s.supply.pfwnLow = false ∧ 4600 ≤ s.supply.vdd then some (s.supply.filter.getD 0) else none
          else if source = true then none
          else s.supply.filter }) ∧
      t.work.spindle = .stopped ∧
      t.heat = { epoch := s.heat.epoch, timer := 0, stream := [], budget := min 16384 s.heat.budget } ∧
      (s.recovery.service = .waiting → s.supply.warning = true ∨ (s.supply.pfwnLow = false ∧ 4500 ≤ s.supply.vdd) →
        t.recovery = s.recovery ∧
        s.changesOnly t [.ports, .params, .heat, .work, .supply]) ∧
      (s.recovery.service = .recovering ∨ s.recovery.service = .blank ∨ s.recovery.service = .formatting → hunts t) ∧
      (s.recovery.service ≠ .waiting →
        t.owed = none ∧
        t.work.jobs = [] ∧ t.work.dQueue = [] ∧ t.work.migQueue = [] ∧ t.work.dIssued = [] ∧ t.work.fIssued = [] ∧
        t.work.windowFences = s.work.windowFences ++
          s.work.dIssued.map (fun o => ⟨o.id, .dLink, o.id, s.genOf o.id⟩) ++
          (s.work.fIssued.filter (fun o => o.id < 8)).map (fun o => ⟨o.id, .fLink, o.id, s.genOf o.id⟩) ∧
        t.work.pageFences = s.work.pageFences ++
          (s.work.fIssued.filter (fun o => 8 ≤ o.id)).map (fun o => ⟨o.id, s.genOf o.id, o.body.index⟩) ∧
        (s.work.gens.length = 32 → (∀ g ∈ s.work.gens, g < 16) → (issued.map (fun o => o.id)).Nodup →
          (∀ o ∈ s.work.dIssued, o.id < 8) → ∀ id, id < 32 →
            ((∃ o ∈ issued, o.id = id) → t.genOf id = (s.genOf id + 1) % 16) ∧
            ((∀ o ∈ issued, o.id ≠ id) → id < 8 → t.genOf id = s.genOf id))) ∧
      (s.recovery.service = .serving →
        t.writes.handles = s.writes.handles.map (fun h =>
          if h.write.isSome then { gen := (h.gen + 1) % 16, write := none } else h) ∧
        t.writes.search = s.writes.search ∧ t.map = { s.map with records := t.records } ∧
        t.jrn.lastJsn = s.jrn.lastJsn ∧ t.jrn.durableJsn = s.jrn.durableJsn ∧ t.jrn.written = s.jrn.written ∧
        t.jrn.tail = s.jrn.tail ∧ t.jrn.nextCkpt = s.jrn.nextCkpt ∧ t.jrn.fault = none ∧ t.jrn.pass = none ∧
        t.jrn.attempts = [] ∧ t.jrn.requested = false ∧
        (∀ k ∈ s.jrn.images, ∃ x ∈ t.jrn.images, x.page.psn = k.page.psn) ∧
        (∀ p, s.jrn.page = some p → ∃ q, t.jrn.page = some q ∧
          ((t.jrn.head = s.jrn.head ∧ q.entries = p.entries ∧ q.firstJsn = p.firstJsn) ∨
            (p.full = true ∧ t.jrn.head = s.jrn.head + 1 ∧ q.entries = [] ∧ q.firstJsn = jsnNext s.jrn.lastJsn))) ∧
        ((s.work.jobs.map (fun j => j.id)).Nodup → (s.work.jobs.map (fun j => j.record)).Nodup →
          let back := (s.work.jobs.filter (fun j => !j.isPromote)).map (fun j => j.record)
          t.records = s.records.map (fun r =>
            { (match s.work.jobs.find? (fun j => j.record = r.id) with
                | none => r
                | some j =>
                  if j.isPromote = true then { r with state := .tracked }
                  else { r with state := .dirty, dirty := r.dirty ||| r.rewrite, rewrite := 0 }) with
              openWrites := 0 }) ∧
          (s.pool.pendingRetire = [] → t.pool = { s.pool with free := s.pool.free ++ s.work.jobs.flatMap (fun j =>
            match j.kind with
            | .promote slots => slots
            | .writeback _ => []) }) ∧
          t.plan =
            { candidates := [], victims := s.plan.victims
              dirtyList := back ++ s.plan.dirtyList.filter (fun id => id ∉ back)
              cursor := none, rebuild := none, tickPending := false
              armed := decide (t.recovery.service ≠ .serving ∨ t.dirtyGrains < t.highMark) }) ∧
        (s.absorbOpens = [] → t.recovery.service = .serving ∧ t.recovery.phase = .none ∧
          Notice.recoveryDone s.jrn.lastJsn ∈ (t.port .iLink).notices) ∧
        (s.absorbOpens ≠ [] → t.recovery.service = .recovering ∧ t.recovery.phase = .resume))

/-- The supply and the reset pin. VDD below 4.20 V for 20 µs holds the part in reset; a dip that is shorter, or not so
deep, is a level of the pins like another: it may start the warning, or move its filter (R182, R185). The lowest level
reached since the hold (log 63) is kept while VDD stays below, and when it is back, whatever command of the pins brings
it (log 46), every block is as after a cold start, with the cause and the count by that level (R185, R187), and RSTn
stays as it is, one that is low since its own cold start in HIBERNATE too (log 66). RSTn low for 1 µs refreshes the map
memory and stops the links, a shorter pulse does nothing, and in a part held in reset only the pin is low (log 10); in
HIBERNATE it makes a cold start, at its falling edge (R181, R186; log 11), which keeps the brown-out count and the
corrected-error count (log 31). A return of RSTn to high in a part held in reset, or after that cold start, makes no
warm start, and one in HIBERNATE makes a cold start (log 10, log 11). A frame start wakes the part from RETAIN into RUN,
its head check made, the words corrected counted (R95, R180, R189; log 7), and from HIBERNATE by a cold start (R181). A
refresh changes nothing but its timer (R188; log 8). The pins and the time base go on (log 4, log 6). -/
def Obligations.SupplyAndWakes : Prop :=
  ∀ (s : State) (corrected : Nat),
    let cold := fun (cause : ResetCause) (browns fixed : Nat) (low : Bool) (vdd : Nat) (rstn : Rstn) =>
      { State.reset with
        pending := s.pending, sent := s.sent, now := s.now
        supply := { Supply.reset with
          cause := cause, brownOuts := browns, corrected := fixed, pfwnLow := low, vdd := vdd, rstn := rstn } }
    let wakes := fun (cause : ResetCause) (rstn : Rstn) =>
      cold cause s.supply.brownOuts s.supply.corrected s.supply.pfwnLow s.supply.vdd rstn
    let holds := fun (supply : Supply) (t : State) =>
      t.supply = supply ∧ (∀ l, t.port l = { s.port l with attention := false }) ∧ s.changesOnly t [.ports, .supply]
    (∀ vdd nanos, vdd < 4200 → 20000 ≤ nanos → s.supply.heldLowest = none →
      ∃ t, exec (.brownOut vdd nanos) s = .next t ∧
      holds { s.supply with vdd := vdd, heldLowest := some vdd, memory := .off } t) ∧
    (∀ i low vdd lowest, s.supply.heldLowest = some lowest →
      (i = .coldStart vdd ∧ low = s.supply.pfwnLow) ∨ ((∃ nanos, i = .brownOut vdd nanos) ∧ low = s.supply.pfwnLow) ∨
        i = .warningStart low vdd corrected ∨ i = .clearingFilter low vdd →
      (vdd < 4200 → ∃ t, exec i s = .next t ∧
        holds { s.supply with pfwnLow := low, vdd := vdd, heldLowest := some (min lowest vdd), memory := .off } t) ∧
      (4200 ≤ vdd → lowest < 2000 → exec i s = .next (cold .por 0 0 low vdd s.supply.rstn)) ∧
      (4200 ≤ vdd → 2000 ≤ lowest →
        exec i s = .next (cold .bor (min 255 (s.supply.brownOuts + 1)) 0 low vdd s.supply.rstn))) ∧
    (∀ vdd nanos i, s.supply.heldLowest = none →
      (i = .brownOut vdd nanos ∧ (nanos < 20000 ∨ 4200 ≤ vdd)) ∨ i = .coldStart vdd →
      exec i s = exec (.clearingFilter s.supply.pfwnLow vdd) s) ∧
    (∀ nanos, nanos < 1000 ∨ s.supply.rstn ≠ .high → exec (.rstnLow nanos) s = .next s) ∧
    (∀ nanos, 1000 ≤ nanos → s.supply.heldLowest ≠ none → s.supply.rstn = .high →
      exec (.rstnLow nanos) s = .next (s.setSupply { s.supply with rstn := .low })) ∧
    (∀ nanos, 1000 ≤ nanos → s.supply.heldLowest = none → s.supply.rstn = .high →
      (s.supply.mode ≠ .hibernate → exec (.rstnLow nanos) s = .next
        (s.setSupply { s.supply with rstn := .low, memory := .refreshed })) ∧
      (s.supply.mode = .hibernate → exec (.rstnLow nanos) s = .next (wakes .rstn .lowAfterCold))) ∧
    (s.supply.rstn = .high → exec (.warmStart corrected) s = .next s) ∧
    (s.supply.rstn = .low → s.supply.heldLowest ≠ none →
      exec (.warmStart corrected) s = .next (s.setSupply { s.supply with rstn := .high })) ∧
    (s.supply.rstn = .low → s.supply.heldLowest = none → s.supply.mode = .hibernate →
      exec (.warmStart corrected) s = .next (wakes .rstn .high)) ∧
    (s.supply.rstn = .lowAfterCold → s.calm = true → s.steady = true →
      ∃ t, exec (.warmStart corrected) s = .next t ∧
      t.supply = { s.supply with rstn := .high } ∧ s.keepsLists t ∧
      (∀ l, (t.port l).notices = (s.port l).notices ∧
        (s.supply.heldLowest = none → (t.port l).attention = (s.port l).notices.any (s.port l).unmasked)) ∧
      s.changesOnly t [.ports, .supply]) ∧
    (∀ l, s.supply.heldLowest = none → s.supply.rstn = .high → s.supply.mode = .hibernate →
      exec (.hibernateWake l) s = .next (wakes .hibernateWake .high)) ∧
    (∀ l n, s.supply.heldLowest = none → s.supply.rstn = .high → s.supply.mode = .retain → s.calm = true →
      ∃ t, exec (.retainWake l n) s = .next t ∧
        t.supply = { s.supply with
          mode := .run, memory := .refreshed, corrected := min 65535 (s.supply.corrected + n) } ∧
        t.plan = { s.plan with candidates := t.plan.candidates } ∧
        s.headChecked s.params.tPromote s.heat.epoch t.plan.candidates ∧
        s.changesOnly t [.supply, .plan]) ∧
    (s.supply.memory = .refreshed → exec .refresh s = .next (s.setSupply { s.supply with refreshTimer := 0 }))

/-- The power-fail warning starts as soon as PFWn is low or VDD is below its threshold: POWER_WARN START is raised on
the three links with its source, every job with a waiting order ends, the others going on, and in SERVING an urgent
emission is made, or asked for (R135, R182 to R184). While it is active the clearing filter runs with PFWn high and VDD
at or above the clearing level, from 0 each time, and stops otherwise. When it has run for 50 ms the warning clears and
POWER_WARN CLEAR is raised (R184). A level that starts no warning is only taken, and WARNING_CLEAR before its time
changes nothing (log 3). So in RUN, in DOZE, in RETAIN and during a quiesce; in HIBERNATE the warning is not judged and
no filter ends (R181). The words that its reads correct are counted, the command bringing their number (R189; log 7).
-/
def Obligations.WarningStartsAndClears : Prop :=
  ∀ (s : State) (corrected : Nat), s.supply.heldLowest = none →
    let threshold := 4400 + 100 * s.params.warnLevel
    let pins := fun (low : Bool) (vdd : Nat) => s.setSupply { s.supply with pfwnLow := low, vdd := vdd }
    let judged := s.calm = true ∧ (s.steady = true ∨ s.supply.mode = .retain)
    (∀ low vdd, s.enduring = true ∨ s.supply.mode = .retain → s.supply.warning = false → low = true ∨ vdd < threshold →
      ∃ t, exec (.warningStart low vdd corrected) s =
        .next (if s.supply.mode = .retain then t else t.afterReads corrected) ∧
        exec (.clearingFilter low vdd) s = .next t ∧ t.sent = s.sent ∧
        t.supply = { s.supply with pfwnLow := low, vdd := vdd, warning := true, filter := none } ∧
        (∀ l, Notice.powerWarnStart low (decide (vdd < threshold)) ∈ (t.port l).notices) ∧
        ((s.work.jobs.map (fun j => j.id)).Nodup →
          t.work.jobs = s.work.jobs.filter (fun j => decide (j.stage = .completing) || s.jobIssued j)) ∧
        (s.serving = true → s.jrn.fault = none → t.hasUnemitted = true → t.jrn.pendingEmission = some true) ∧
        (s.serving = false → t.jrn = s.jrn) ∧ s.keepsLists t ∧
        s.changesOnly t [.ports, .map, .pool, .plan, .work, .jrn, .supply]) ∧
    (∀ low vdd, judged → s.supply.warning = false → low = false → threshold ≤ vdd →
      exec (.warningStart low vdd corrected) s = .next (pins low vdd) ∧
        exec (.clearingFilter low vdd) s = .next (pins low vdd)) ∧
    (∀ low vdd, judged → s.supply.warning = true →
      exec (.clearingFilter low vdd) s = .next
        (s.setSupply
          { s.supply with
            pfwnLow := low, vdd := vdd
            filter := if low = false ∧ threshold + 100 ≤ vdd then some (s.supply.filter.getD 0) else none })) ∧
    (∀ n, judged → s.supply.warning = true → s.supply.filter = some n →
      (n < 50 → exec .warningClear s = .next s) ∧
      (50 ≤ n → ∃ t, exec .warningClear s = .next t ∧ t.supply = { s.supply with warning := false, filter := none } ∧
        (∀ l, Notice.powerWarnClear ∈ (t.port l).notices) ∧ s.keepsLists t ∧ s.changesOnly t [.ports, .supply])) ∧
    (s.supply.mode = .hibernate → s.calm = true → exec .warningClear s = .next s ∧
      ∀ low vdd, exec (.warningStart low vdd corrected) s = .next (pins low vdd) ∧
        exec (.clearingFilter low vdd) s = .next (pins low vdd))

/-- An uncorrectable error in SERVING, RECOVERING or FORMATTING loses the map: the deferred requests are answered
NOT_READY, MAP_LOST is raised on the three links with the state left, the map, the pool, the lists, the jobs and the
journal return to their cold-start values, the mode is RUN, and a hunt begins; C, the parameters, the spindle state,
the sizes where it happens in SERVING (R201; elsewhere they are 0 as R173 gives for a warm start, log 29),
the warning and the reset cause are kept (R34, R140, R174, R189). The words that the failed read corrected are counted
(log 7); in WAITING and BLANK, whose map memory holds no state in use, nothing else changes (log 30). -/
def Obligations.MapLossLeaves : Prop :=
  ∀ (s : State) (n : Nat), s.awake = true →
    let fixed := min 65535 (s.supply.corrected + n)
    (s.recovery.service = .waiting ∨ s.recovery.service = .blank →
      exec (.mapLoss n) s = .next (s.setSupply { s.supply with corrected := fixed })) ∧
    (s.recovery.service ≠ .waiting → s.recovery.service ≠ .blank → ∃ t, exec (.mapLoss n) s = .next t ∧
      t.recovery.service = .recovering ∧ t.recovery.ringPages = s.recovery.ringPages ∧
      (∃ h, t.recovery.phase = .hunt h ∧ h.stage = .zero ∧ h.reading.index = 0) ∧
      t.records = [] ∧ t.pool = SlotPool.reset ∧ t.plan = Planner.reset ∧ t.owed = none ∧ t.jrn = Journal.reset ∧
      t.map.slotCount = (if s.recovery.service = .serving then s.map.slotCount else 0) ∧
      t.map.diskGrains = (if s.recovery.service = .serving then s.map.diskGrains else 0) ∧
      t.work.jobs = [] ∧ t.work.dIssued = [] ∧ t.work.fIssued = [] ∧ t.work.dQueue = [] ∧ t.work.migQueue = [] ∧
      t.work.spindle = s.work.spindle ∧ t.heat = s.heat ∧ t.params = s.params ∧
      t.supply = { s.supply with mode := .run, corrected := fixed } ∧
      t.writes.handles = s.writes.handles.map (fun h =>
        if h.write.isSome then { gen := (h.gen + 1) % 16, write := none } else h) ∧
      (∀ l, Notice.mapLost s.recovery.service ∈ (t.port l).notices ∧ (t.port l).mask = (s.port l).mask) ∧
      let answered := fun (l : Link) (a : Accepted) =>
        a ∉ (t.port l).accepted ∧ a.reply l .notReady .empty ∈ t.sent
      (∀ a ∈ (s.port .iLink).accepted, ∀ x, a.standing = .syncWaits x → answered .iLink a) ∧
      (s.quiescing = true → ∀ a ∈ (s.port .iLink).accepted, a.standing = .powerWaits → answered .iLink a) ∧
      ∀ a ∈ (s.port .fLink).accepted, a.standing = .formatWaits → answered .fLink a)

/-! ## Timers, planner, journal -/

/-- An epoch tick, due when the epoch timer has counted EPOCH_SECONDS x 1,000 ms: C rises by 1 and saturates, the count
starts again, the write budget becomes min (BUDGET_CAP, level + BUDGET_RATE), and outside RETAIN a walk of the sweep
begins, or one waits behind the walk in progress, and the head check is made (R31, R33, R47, R95, R101). The linger
timer expires JOURNAL_LINGER ms after the first unemitted entry of the open page: the page is emitted, its image made
or, where none can be, asked for (R147). Before they are due the two change nothing (log 3). The words that its reads
correct are counted, the command bringing their number (R189; log 7). -/
def Obligations.TimersExpire : Prop :=
  (∀ (s : State) (corrected : Nat), s.serving = true → s.supply.mode ≠ .hibernate → s.supply.heldLowest = none →
    s.supply.rstn = .high →
     s.steady = true ∨ s.supply.mode = .retain → s.calm = true →
     (s.heat.timer < s.params.epochSeconds * 1000 → exec (.epochTick corrected) s = .next s) ∧
     (s.params.epochSeconds * 1000 ≤ s.heat.timer → ∃ t, exec (.epochTick corrected) s =
         .next (if s.supply.mode = .retain then t else t.afterReads corrected) ∧
       t.heat = { s.heat with
         epoch := min 4294967295 (s.heat.epoch + 1), timer := 0
         budget := min s.params.budgetCap (s.heat.budget + s.params.budgetRate) } ∧
       (s.supply.mode = .retain → t.plan = s.plan) ∧
       (s.supply.mode ≠ .retain →
         t.plan = { s.plan with
           candidates := t.plan.candidates
           cursor := some (s.plan.cursor.getD 0)
           rebuild := if s.plan.cursor.isSome then s.plan.rebuild else some []
           tickPending := s.plan.tickPending || s.plan.cursor.isSome } ∧
         s.headChecked s.params.tPromote t.heat.epoch t.plan.candidates) ∧
       t.records = s.records ∧ s.changesOnly t [.map, .heat, .plan])) ∧
  (∀ (s : State) (p : OpenPage) (started corrected : Nat), s.awake = true → s.steady = true → s.calm = true →
     s.jrn.page = some p → p.linger = some started → s.jrn.fault = none → 0 < p.unemitted →
     (s.now < started + s.params.journalLinger → exec (.lingerExpiry corrected) s = .next s) ∧
     (started + s.params.journalLinger ≤ s.now →
       ∃ t q, exec (.lingerExpiry corrected) s = .next (t.afterReads corrected) ∧ t.jrn.page = some q ∧
       q.linger = none ∧ q.entries = p.entries ∧
       ((q.unemitted = 0 ∧ ∃ i ∈ t.jrn.images, i.page.psn = s.jrn.head ∧ i.page.entries = p.entries ∧
           i.page.firstJsn = p.firstJsn ∧ i.page.tail = s.jrn.tail ∧ i.page.epoch = s.heat.epoch) ∨
         (3 ≤ s.jrn.images.length ∧ t.jrn.pendingEmission ≠ none)) ∧
       s.keepsLists t ∧ s.changesOnly t [.ports, .work, .jrn]))

/-- A promotion starts on the head of the candidate list in the lowest FREE window: slots for its length leave the head
of the free pool for the job's reservation, the budget falls by its length, the record enters PROMOTING and leaves the
list, and its PLATTER_READ joins the tail of the D-link queue (R98, R99). A write-back starts on the first record of
the dirty list that is DIRTY, without open writes and without absorb-open, and, at or below the low mark, retiring
(R107): it enters WRITING_BACK and leaves the dirty list, its dirty mask is the snapshot, and its SLOT_READ joins the
F-link migration class (R108). Where two windows or more are FREE and both hold, both are taken: the other one is owed a
window then, and comes first for the last FREE one (R110; the note of it is the model's, log 58). Where one window is
FREE, both would start and none is owed, the write-back has it while the dirty grains are at or above the high mark,
and the promotion otherwise (R110). The words that its reads correct are counted,
the command bringing their number (R189; log 7). -/
def Obligations.PlannerStarts : Prop :=
  ∀ (s : State) (w corrected : Nat), extentsSound s.records → s.calm = true → w < 8 → s.jobOf w = none →
    s.windowFenced w = false → (∀ v, v < w → (s.jobOf v).isSome ∨ s.windowFenced v = true) →
    let may := s.serving = true ∧ s.supply.mode = .run ∧ s.supply.heldLowest = none ∧ s.supply.warning = false ∧
      s.stalled = false ∧ s.jrn.fault = none
    let active := s.map.slotCount - s.pool.retired.length
    let urgent := active * s.params.dirtyHigh / 100 ≤ s.dirtyGrains
    let eligible := fun (r : Rec) => r.state = .dirty ∧ r.openWrites = 0 ∧ r.absorbOpen = false ∧
      (active * s.params.dirtyLow / 100 < s.dirtyGrains ∨ s.isRetiring r.id = true)
    let promotable := fun (r : Rec) => r.state = .tracked ∧ r.openWrites = 0 ∧
      (r.pinned = true ∨ (r.len ≤ s.heat.budget ∧ s.params.tPromote ≤ r.density s.heat.epoch)) ∧
      r.len + s.params.reserveSlots ≤ s.pool.free.length
    let onlyWindow := ∀ v, v < 8 → v ≠ w → (s.jobOf v).isSome ∨ s.windowFenced v = true
    let backWants := s.work.spindle = .spinning ∧ ∃ id ∈ s.plan.dirtyList, ∃ r, s.recordOf id = some r ∧ eligible r
    let headWants := ∃ c rest r, s.plan.candidates = c :: rest ∧ s.recordOf c.record = some r ∧ promotable r
    let backFirst := s.owed = some .writeback ∨ (s.owed = none ∧ urgent)
    let entered := fun (t : State) (j : Job) =>
      (∀ x, x ∈ t.work.jobs ↔ x = j ∨ x ∈ s.work.jobs) ∧ t.work.pageQueue = s.work.pageQueue ∧
        t.work.dIssued = s.work.dIssued ∧ t.work.fIssued = s.work.fIssued ∧ t.work.gens = s.work.gens ∧ s.keepsLists t
    (∀ c rest r, s.plan.candidates = c :: rest → s.recordOf c.record = some r → may → promotable r →
      (onlyWindow → backWants → backFirst → exec (.promotionStart corrected) s = .next s) ∧
      (¬(onlyWindow ∧ backWants ∧ backFirst) →
        ∃ t, exec (.promotionStart corrected) s = .next (t.afterReads corrected) ∧
        entered t
          { id := w, kind := .promote (s.pool.free.take r.len), record := r.id, first := r.first, len := r.len
            stage := .one, cancel := false, attempts := 0 } ∧
        t.pool = { s.pool with free := s.pool.free.drop r.len } ∧
        t.heat = { s.heat with budget := s.heat.budget - r.len } ∧
        t.records = s.records.map (fun x => if x.id = r.id then { x with state := .promoting } else x) ∧
        (∀ y ∈ t.plan.candidates, y.record ≠ r.id) ∧
        (t.owed = some .writeback ↔ ¬onlyWindow ∧ backWants) ∧ t.owed ≠ some .promotion ∧
        t.work.dQueue = s.work.dQueue ++ [⟨w, .platterRead w r.first r.len⟩] ∧ t.work.migQueue = s.work.migQueue ∧
        s.changesOnly t [.ports, .map, .heat, .pool, .plan, .work, .owed])) ∧
    ∀ before id after r, may → s.work.spindle = .spinning → s.plan.dirtyList = before ++ id :: after →
      s.recordOf id = some r → eligible r → (∀ x ∈ before, ∀ y, s.recordOf x = some y → ¬eligible y) →
      (onlyWindow → headWants → ¬backFirst → exec (.writebackStart corrected) s = .next s) ∧
      (¬(onlyWindow ∧ headWants ∧ ¬backFirst) →
        ∃ t, exec (.writebackStart corrected) s = .next (t.afterReads corrected) ∧
        entered t
          { id := w, kind := .writeback r.dirty, record := r.id, first := r.first, len := r.len
            stage := .one, cancel := false, attempts := 0 } ∧
        t.records = s.records.map (fun x => if x.id = r.id then { x with state := .writingBack, rewrite := 0 } else x) ∧
        t.plan.dirtyList = s.plan.dirtyList.filter (fun x => x ≠ r.id) ∧
        (t.owed = some .promotion ↔ ¬onlyWindow ∧ headWants) ∧ t.owed ≠ some .writeback ∧
        t.work.migQueue = s.work.migQueue ++ [⟨w, .slotRead w r.dirty r.slots⟩] ∧ t.work.dQueue = s.work.dQueue ∧
        s.changesOnly t [.ports, .map, .plan, .work, .owed])

/-- An offer of a TRACKED record to the candidate list, its hint the record's density of the moment. A record not on
the list enters with a hint of at least T_PROMOTE, or pinned with any hint: the pinned part at its tail, the unpinned
part at its place by hint behind its equals; on a list of 64 entries it takes the place of the lowest entry, where that
one is unpinned and the newcomer pinned or of a higher hint, and otherwise it is not entered (R93). A record on the list
has its hint renewed: it keeps its place in the pinned part, is re-placed in the unpinned part with its order among
equals as it was, goes over to the other part as a newcomer to it, or leaves when it is unpinned and below T_PROMOTE
(R94). Where the head is then another one, the head check is made (R95; log 38). A LOCATE that is not streamed offers a
TRACKED record that it touches, where it is listed or its density reaches T_PROMOTE (R41). -/
def Obligations.OffersTake : Prop :=
  (∀ (s : State) (r : Rec), extentsSound s.records → candidatesOrdered s.plan.candidates → r ∈ s.records →
    r.state = .tracked →
    let cs := s.plan.candidates
    let hint := r.density s.heat.epoch
    let t := s.offerCandidate r.id
    let wanted := r.pinned = true ∨ s.params.tPromote ≤ hint
    let becomes := fun (xs : List Candidate) => s.changesOnly t [.plan] ∧ t.owed = s.owed ∧
      t.plan = { s.plan with candidates := t.plan.candidates } ∧
      (xs.head?.map (fun c => c.record) = cs.head?.map (fun c => c.record) → t.plan.candidates = xs) ∧
      (xs.head?.map (fun c => c.record) ≠ cs.head?.map (fun c => c.record) →
        (s.setPlan { s.plan with candidates := xs }).headChecked s.params.tPromote s.heat.epoch t.plan.candidates)
    let enters := fun (from_ : List Candidate) (arrival : Nat) => ∃ front back, from_ = front ++ back ∧
      becomes (front ++ { record := r.id, hint := hint, pinned := r.pinned, arrival := arrival } :: back) ∧
      if r.pinned = true then (∀ c ∈ front, c.pinned = true) ∧ ∀ c ∈ back, c.pinned = false
      else
        (∀ c ∈ front, c.pinned = true ∨ hint < c.hint ∨ (c.hint = hint ∧ c.arrival < arrival)) ∧
          ∀ c ∈ back, c.pinned = false ∧ (c.hint < hint ∨ (c.hint = hint ∧ arrival < c.arrival))
    let arrives := fun (from_ : List Candidate) => ∃ arrival, (∀ c ∈ cs, c.arrival < arrival) ∧ enters from_ arrival
    ((∀ c ∈ cs, c.record ≠ r.id) →
      (¬wanted → t = s) ∧ (wanted → cs.length < 64 → arrives cs) ∧
      ∀ above low, cs = above ++ [low] → cs.length = 64 → wanted →
        if low.pinned = false ∧ (r.pinned = true ∨ low.hint < hint) then arrives above else t = s) ∧
    ∀ before old after, cs = before ++ old :: after → old.record = r.id →
      (r.pinned = true → old.pinned = true → becomes (before ++ { old with hint := hint } :: after)) ∧
      (wanted → old.pinned ≠ r.pinned → arrives (before ++ after)) ∧
      (wanted → r.pinned = false → old.pinned = false → enters (before ++ after) old.arrival) ∧
      (¬wanted → becomes (before ++ after))) ∧
  ∀ (s : State) (r : Rec) (tag first count corrected : Nat), s.serves .iLink tag = true →
    s.admits first count = true → s.isStreamed first count = false → extentsSound s.records → r ∈ s.records →
    r.state = .tracked → r.first ≤ first → first + count ≤ r.first + r.len →
    let weight := if s.work.spindle = .spinning then s.params.wPlatterRead else s.params.wWakeRead
    let warm : Rec := { r with heat := min 65535 (r.currentHeat s.heat.epoch + weight), epoch := s.heat.epoch }
    let u := s.setRecords (s.records.map (fun x => if x.id = r.id then warm else x))
    ∃ t, exec (.locate tag first count corrected) s = .next t ∧ t.records = u.records ∧
      (s.isCandidate r.id = true ∨ s.params.tPromote ≤ warm.density s.heat.epoch →
        t.plan = (u.offerCandidate r.id).plan) ∧
      (s.isCandidate r.id = false → warm.density s.heat.epoch < s.params.tPromote → t.plan = s.plan)

/-- A release makes a MIRRORED, unpinned record without open writes TRACKED: its slots go to the tail of the quarantine,
keyed by the EXTENT_SET placed (R24), and a SLOT_RETIRE follows for each of them that awaits retirement, marked
retire-on-exit (R83, R86). The planner releases for a head that meets every condition of its promotion but the free
pool's count, where the slots to come back do not suffice either and the journal can take the entry (R103); of the
records of the victim list that are MIRRORED, unpinned, not retiring and without open writes, and whose density and
HYSTERESIS together stay below the head's (R42), it takes the one of lowest density, the first on the list among equals
(R104). The entries whose records are not MIRRORED, or pinned, or retiring leave the list at the selection, whether or
not a victim passes; an entry whose record only has open writes or fails the comparison stays, and the released one
leaves (R104, R105). A record whose slot awaits retirement is released as soon as the journal can take the entries (R12,
R146). The words that its reads correct are counted, the command bringing their number (R189; log 7). -/
def Obligations.ReleasesGiveSlots : Prop :=
  ∀ (s : State) (corrected : Nat), extentsSound s.records → s.calm = true → s.steady = true →
    let density := fun (x : Rec) => x.density s.heat.epoch
    let wants := fun (head : Rec) =>
      (∃ c rest, s.plan.candidates = c :: rest ∧ s.recordOf c.record = some head) ∧ s.works = true ∧
        s.supply.mode = .run ∧ s.supply.warning = false ∧ s.stalled = false ∧ s.jrn.fault = none ∧
        head.state = .tracked ∧ head.openWrites = 0 ∧
        (head.pinned = true ∨ (head.len ≤ s.heat.budget ∧ s.params.tPromote ≤ density head)) ∧
        s.pool.free.length + s.pool.quarantine.countP (fun q => !q.retire) < head.len + s.params.reserveSlots ∧
        s.canTake false [.extentSet head.described] = true
    let fit := fun (v : Victim) => (s.recordOf v.record).any (fun x =>
      decide (x.state = .mirrored) && !x.pinned && !s.isRetiring x.id)
    let passes := fun (head : Rec) (v : Victim) (x : Rec) => s.recordOf v.record = some x ∧ fit v = true ∧
      x.openWrites = 0 ∧ density x + s.params.hysteresis < density head
    (∀ head, wants head → (∀ v ∈ s.plan.victims, ∀ x, ¬passes head v x) →
      exec (.victimRelease corrected) s = .next
        ((s.setPlan { s.plan with victims := s.plan.victims.filter fit }).afterReads corrected)) ∧
    ∀ r ∈ s.records, ((Change.start s).release r).fits = true → s.jrn.lastJsn ≤ 4294967295 →
    let released := fun (t : State) =>
      let tracked : Rec := { r with state := .tracked, slots := [], attempts := 0 }
      t.records = s.records.map (fun x => if x.id = r.id then tracked else x) ∧
      t.pool.quarantine = s.pool.quarantine ++ r.slots.map (fun n =>
        ⟨n, jsnAdd s.jrn.lastJsn 1, s.pool.pendingRetire.any (fun x => x.slot = n)⟩) ∧
      t.pool.free = s.pool.free ∧ t.pool.retired = s.pool.retired ∧
      t.pool.pendingRetire = s.pool.pendingRetire.filter (fun x => x.slot ∉ r.slots) ∧
      s.journaled t (.extentSet tracked.described ::
        (s.pool.pendingRetire.filter (fun x => x.slot ∈ r.slots)).map (fun x => .slotRetire x.slot)) ∧
      s.keepsLists t ∧ t.work.jobs = s.work.jobs ∧ s.changesOnly t [.ports, .map, .pool, .plan, .work, .jrn]
    (∀ head before v after, wants head → s.plan.victims = before ++ v :: after → passes head v r →
      (∀ u ∈ before, ∀ x, passes head u x → density r < density x) →
      (∀ u ∈ after, ∀ x, passes head u x → density r ≤ density x) →
      ∃ t, exec (.victimRelease corrected) s = .next (t.afterReads corrected) ∧ released t ∧
        t.plan = { s.plan with victims := s.plan.victims.filter (fun u => fit u && decide (u.record ≠ r.id)) }) ∧
    (s.works = true → r.state = .mirrored → r.pinned = false → r.openWrites = 0 → s.isRetiring r.id = true →
      ∃ t, exec (.waitingRetirementRelease r.id corrected) s = .next (t.afterReads corrected) ∧ released t)

/-- The retirement release of a MIRRORED, unpinned record that a RETIRE left with a pending slot follows what frees it
(R12), where the open page has room for the entries of both: the close of its last open write, by WRITE_CLOSE or by the
write timeout, before the entries of the records that the write created (R65, step 1; log 18); an UNPIN (R74; log 52);
a DISCARD that leaves it MIRRORED (R70; log 50); the FINISH that completes its write-back (R118); and a visit of the
sweep (R102, check 7). The record is then TRACKED, its slots stand in the quarantine, keyed by its EXTENT_SET, those
that awaited retirement marked, and a SLOT_RETIRE follows for each of them (R24, R83, R86). A DISCARD that covers a
record whole does the same with its EXTENT_DROP (R25). One record is concerned; the words corrected are counted, the
command bringing their number (R189; log 7). -/
def Obligations.RetirementFollows : Prop :=
  ∀ (s : State) (r : Rec) (corrected : Nat), extentsSound s.records → r ∈ s.records → s.jrn.lastJsn ≤ 4294967295 →
    s.isRetiring r.id = true →
    let away := fun (x : Rec) => Entry.extentSet x.released.described :: s.retirements x.slots
    let others := fun (p : Rec → Bool) => ∀ y ∈ s.records, p y = true → y.id ≠ r.id → s.unretired y = true
    let becomes := fun (t : State) (x : Rec) => t.records = s.records.map (fun y => if y.id = r.id then x else y)
    let frame := fun (t : State) => s.keepsLists t ∧
      s.changesOnly t [.sent, .ports, .map, .writes, .pool, .plan, .work, .jrn]
    (∀ (h : Nat) (w : OpenWrite), h ≤ 31 → s.openWrite h = some w → s.writes.handles.length = 32 →
      s.enduring = true → r.state = .mirrored → r.pinned = false → r.openWrites = 1 → w.lists r.id = true →
      w.creates r.id = false → others (fun y => w.lists y.id) →
      let made := s.createdBy w
      let entries := away r ++ made.map (fun x => .absorbCommit x.first)
      let closed := fun (t : State) =>
        t.records = s.records.map (fun y =>
          if y.id = r.id then { r.released with openWrites := 0 }
          else if w.lists y.id = true then
            { y with openWrites := y.openWrites - 1, absorbOpen := y.absorbOpen && !w.creates y.id }
          else y) ∧
        s.givesUp t r.slots 1 ∧ s.journaled t entries ∧
        t.writes.get h = { gen := ((s.writes.get h).gen + 1) % 16, write := none } ∧ frame t
      s.hasRoom entries →
      (∀ tag gen, s.serves .iLink tag = true → gen ≤ 15 → (s.writes.get h).gen = gen →
        ∃ t, exec (.writeClose tag h gen 0 corrected) s = .next (t.afterReads corrected) ∧ closed t ∧
          t.sent = s.sent ++ [replyTo (.writeClose h gen 0) .iLink tag .ok
            (.jsn (if made = [] then w.commitJsn else t.jrn.lastJsn))]) ∧
      (s.awake = true → s.calm = true → w.held = false → w.opened + s.params.writeTimeout ≤ s.now →
        ∃ t, exec (.writeTimeout h corrected) s = .next (t.afterReads corrected) ∧ closed t ∧ t.sent = s.sent ∧
          Notice.writeOrphan h (s.writes.get h).gen w.first w.count ∈ (t.port .iLink).notices)) ∧
    (∀ tag first count, s.serves .iLink tag = true → s.admits first count = true → s.supply.warning = false →
      r.met first count = true → others (fun y => y.met first count) →
      let ok := fun (t : State) (q : Request) => t.sent = s.sent ++ [replyTo q .iLink tag .ok .empty] ∧ frame t
      (r.state = .mirrored → r.openWrites = 0 → r.pinned = true →
        (∀ y ∈ s.records, y.met first count = true → y.id = r.id) →
        let x : Rec := { r with pinned := false }
        let entries := Entry.extentSet x.described :: away x
        s.hasRoom entries → ∃ t, exec (.unpin tag first count corrected) s = .next (t.afterReads corrected) ∧
          ok t (.unpin first count) ∧ becomes t x.released ∧ s.givesUp t r.slots 2 ∧ s.journaled t entries) ∧
      (s.jobsMet first count = [] → r.state = .mirrored ∨ r.state = .dirty → r.openWrites = 0 → r.pinned = false →
        r.first < first →
        first + count < r.first + r.len → r.dirty &&& ~~~r.covered first count = 0 →
        let x : Rec := { r with state := .mirrored, dirty := 0, attempts := 0, wbFailed := false }
        let entries := (if r.dirty = 0 then [] else [Entry.extentSet x.described]) ++ away x
        s.hasRoom entries →
        ∃ t, exec (.discard tag first count corrected) s = .next (t.afterReads corrected) ∧
        ok t (.discard first count) ∧
          becomes t x.released ∧ s.givesUp t r.slots (if r.dirty = 0 then 1 else 2) ∧ s.journaled t entries) ∧
      (s.jobsMet first count = [] → r.openWrites = 0 → first ≤ r.first →
        r.first + r.len ≤ first + count → (∀ y ∈ s.records, y.met first count = true → y.id = r.id) →
        let entries := Entry.extentDrop r.first r.len :: s.retirements r.slots
        s.hasRoom entries → ∃ t, exec (.discard tag first count corrected) s = .next (t.afterReads corrected) ∧
          ok t (.discard first count) ∧ t.records = s.records.filter (fun y => y.id ≠ r.id) ∧
          s.givesUp t r.slots 1 ∧ s.journaled t entries)) ∧
    (∀ (l : Link) (tag gen : Nat) (o : Order) (j : Job) (mask : Mask), s.ready l tag = true → tag < 16 →
      s.enduring = true → s.calm = true → s.serving = true → l ≠ .iLink → gen ≤ 15 → o.id < 8 →
      s.fenceMet l o.id gen = false → s.issuedOrder l o.id gen = some o → s.jobOf o.id = some j →
      (match o.body with
        | .pageRead _ | .pageWrite _ _ => False
        | _ => True) →
      j.cancel = false → j.stage = .two → j.kind = .writeback mask → j.record = r.id →
      (s.work.jobs.map (fun x => x.id)).Nodup → r.openWrites = 0 → r.pinned = false →
      (r.dirty &&& ~~~mask) ||| r.rewrite = 0 →
      let x : Rec := { r with state := .mirrored, dirty := 0, rewrite := 0, attempts := 0, wbFailed := false }
      let entries := Entry.extentSet x.described :: away x
      s.hasRoom entries → ∃ t, exec (.finish l tag o.id gen 0 none corrected) s = .next (t.afterReads corrected) ∧
        t.sent = s.sent ++ [replyTo (.finish o.id gen 0 none) l tag .ok .empty] ∧ becomes t x.released ∧
        t.work.jobs = s.work.jobs.filter (fun y => y.id ≠ j.id) ∧ s.givesUp t r.slots 2 ∧ s.journaled t entries ∧
        frame t) ∧
    (s.works = true → s.steady = true → s.calm = true → s.plan.cursor = some r.id → s.map.sweepNew = false →
      r.state = .mirrored → r.openWrites = 0 → r.pinned = false → s.hasRoom (away r) →
      ∃ t, exec (.sweepVisit corrected) s = .next (t.afterReads corrected) ∧ t.sent = s.sent ∧
        becomes t r.released ∧ s.givesUp t r.slots 1 ∧ s.journaled t (away r) ∧ frame t ∧
        (r.id < 16383 → t.plan.cursor = some (r.id + 1)))

/-- A visit of the sweep (R101, R102). A TRACKED record that is on the candidate list, or pinned, or of a density of at
least T_PROMOTE is offered to the candidate list with its density of the visit (R93, R94). One that is off the list,
unpinned and without open writes is forgotten where its current heat is 0, or where its density is below floor
(T_PROMOTE / 4) and at least 15,360 records live; no entry is placed. A MIRRORED record that is unpinned, not retiring
and without open writes is offered to the victim list under rebuild with its density as hint: it enters at its place by
hint, behind its equals, and on a list of 32 only where its hint is below that of the last entry, which then leaves. A
DIRTY record after a failed write-back joins the tail of the dirty list again, below 3 attempts. The cursor then moves
on; after record 16,383 the list under rebuild is put in place (R100). A record made at the cursor since it came there
is not visited (R101; the mark that says so is the model's, log 49). The words that its reads correct are counted, the
command bringing their number (R189; log 7). -/
def Obligations.SweepVisits : Prop :=
  ∀ (s : State) (id corrected : Nat), s.works = true → s.steady = true → s.calm = true → extentsSound s.records →
    s.isRetiring id = false → s.plan.cursor = some id → id < 16384 →
    ∃ t : State, exec (.sweepVisit corrected) s = .next (t.afterReads corrected) ∧ t.sent = s.sent ∧ t.jrn = s.jrn ∧
    t.pool = s.pool ∧ t.work = s.work ∧
      t.ports = s.ports ∧
      (id < 16383 → t.plan.cursor = some (id + 1)) ∧
      (id = 16383 → s.plan.tickPending = false → t.plan.cursor = none ∧ t.plan.rebuild = none ∧
        (s.recordOf id = none ∨ s.map.sweepNew = true → t.plan.victims = s.plan.rebuild.getD [])) ∧
      (id = 16383 → s.plan.tickPending = true → t.plan.cursor = some 0 ∧ t.plan.rebuild = some [] ∧
        t.plan.tickPending = false) ∧
      t.map.sweepNew = false ∧ (s.recordOf id = none ∨ s.map.sweepNew = true → t.records = s.records ∧
        t.plan.candidates = s.plan.candidates ∧ t.plan.dirtyList = s.plan.dirtyList ∧
        (id < 16383 → t.plan.rebuild = s.plan.rebuild)) ∧
      ∀ r, s.recordOf id = some r → s.map.sweepNew = false →
        let cold := r.state = .tracked ∧ s.isCandidate id = false ∧ r.pinned = false ∧ r.openWrites = 0 ∧
          (r.currentHeat s.heat.epoch = 0 ∨
            (r.density s.heat.epoch < s.params.tPromote / 4 ∧ 15360 ≤ s.records.length))
        let returns := r.state = .dirty ∧ r.wbFailed = true ∧ r.attempts < 3
        let hint := r.density s.heat.epoch
        let offered := r.state = .tracked ∧ (s.isCandidate id = true ∨ r.pinned = true ∨ s.params.tPromote ≤ hint)
        let victim := r.state = .mirrored ∧ r.pinned = false ∧ r.openWrites = 0
        let enters := fun (vs us : List Victim) => ∃ front back, vs = front ++ back ∧
          us = front ++ ⟨id, hint⟩ :: back ∧ (∀ v ∈ front, v.hint ≤ hint) ∧ ∀ v, back.head? = some v → hint < v.hint
        let rebuilds := fun (us : List Victim) =>
          (id < 16383 → t.plan.rebuild = some us) ∧ (id = 16383 → t.plan.victims = us)
        (cold → t.records = s.records.filter (fun x => x.id ≠ id) ∧ t.isCandidate id = false) ∧
        (returns → t.records = s.records.map (fun x => if x.id = id then { x with wbFailed := false } else x) ∧
          t.plan.dirtyList =
            if id ∈ s.plan.dirtyList then s.plan.dirtyList else s.plan.dirtyList ++ [id]) ∧
        (¬cold → ¬returns → t.records = s.records ∧ t.plan.dirtyList = s.plan.dirtyList) ∧
        (offered → ¬cold → t.plan.candidates = (s.offerCandidate id).plan.candidates) ∧
        (¬offered → t.plan.candidates = s.plan.candidates) ∧
        (r.state = .tracked → s.params.tPromote ≤ r.density s.heat.epoch → s.plan.candidates.length < 64 →
          ¬cold → t.isCandidate id = true) ∧
        ∀ vs, s.plan.rebuild = some vs →
          (victim → vs.length < 32 → ∃ us, rebuilds us ∧ enters vs us) ∧
          (∀ most high, victim → vs = most ++ [high] → vs.length = 32 →
            (hint < high.hint → ∃ us, rebuilds us ∧ enters most us) ∧ (high.hint ≤ hint → rebuilds vs)) ∧
          (¬victim → ¬cold → rebuilds vs) ∧
          (cold → rebuilds (vs.filter (fun v => v.record ≠ id)))

/-- A checkpoint pass. CKPT_BEGIN comes when no pass is in progress, the journal is without fault, and half the ring is
used, a pass was asked for, or the map is restated, in RESUME too (R153; log 44); it takes the next checkpoint number,
modulo 2^32 (log 34), and begins the pass at record id 0, in the page it lands in. Each visit of a live record places
one CKPT_RECORD, of PROMOTING as TRACKED and of WRITING_BACK as DIRTY with both masks, and a visit of a free place
none, as one of a record made there since the cursor came (R154; the mark is the model's, log 49). The retired phase
places the slots above the last recorded, 64 at most in an entry, and CKPT_END follows when none is left (R155); a slot
retired while an offered CKPT_END was not taken goes into a further CKPT_RETIRED before it (log 62). An
entry that the journal cannot take leaves the pass where it is, and JOURNAL_FAULT stops it there (R152). A command that
is not due changes nothing (log 3). The words that its reads correct are counted, the command bringing their number
(R189; log 7). -/
def Obligations.CheckpointPass : Prop :=
  ∀ (s : State) (corrected : Nat), s.awake = true → s.steady = true → s.calm = true → s.jrn.lastJsn ≤ 4294967295 →
    let placed := fun (t : State) (e : Entry) =>
      (∃ p, t.jrn.page = some p ∧ p.entries.getLast? = some e) ∧ t.jrn.lastJsn = jsnAdd s.jrn.lastJsn 1 ∧
        t.map = { s.map with passNew := t.map.passNew } ∧ s.keepsLists t ∧ s.changesOnly t [.ports, .map, .work, .jrn]
    let kept := fun (t : State) => t.jrn.lastJsn = s.jrn.lastJsn ∧ t.jrn.pass = s.jrn.pass ∧ t.map = s.map
    let due := s.jrn.page ≠ none ∧ s.jrn.pass = none ∧ s.jrn.fault = none ∧
      (s.recovery.ringPages / 2 ≤ s.jrn.head - s.jrn.tail ∨ s.jrn.requested = true ∨ s.recovery.phase = .restate)
    (¬due → exec (.ckptBegin corrected) s = .next s) ∧
    (due →
      let e := Entry.ckptBegin s.jrn.nextCkpt
      ∃ t, exec (.ckptBegin corrected) s = .next (t.afterReads corrected) ∧
        (s.canTake true [e] = true → placed t e ∧ t.map.passNew = false ∧ t.jrn.requested = false ∧
          t.jrn.nextCkpt = (s.jrn.nextCkpt + 1) % 2 ^ 32 ∧ ∃ answers, t.jrn.pass = some
            { number := s.jrn.nextCkpt, beginPsn := t.jrn.head, phase := .records 0, answers := answers } ∧
            (answers = true ↔ ∃ back done, s.supply.mode = .quiescing .hibernate back done)) ∧
        (s.canTake true [e] = false → kept t ∧ t.jrn.requested = s.jrn.requested)) ∧
    (s.jrn.fault ≠ none → exec (.ckptRecord corrected) s = .next s ∧ exec (.ckptRetired corrected) s = .next s ∧
      exec (.ckptEnd corrected) s = .next s) ∧
    (∀ p id, s.jrn.pass = some p → p.phase = .records id → s.jrn.fault = none →
      let next : PassPhase := if id + 1 < 16384 then .records (id + 1) else .retired none
      (s.recordOf id = none ∨ s.map.passNew = true → exec (.ckptRecord corrected) s = .next
        (((s.setMap { s.map with passNew := false }).setJrn
          { s.jrn with pass := some { p with phase := next } }).afterReads corrected)) ∧
      ∀ r, s.recordOf id = some r → s.map.passNew = false →
      ∃ t, exec (.ckptRecord corrected) s = .next (t.afterReads corrected) ∧
        let e := Entry.ckptRecord r.described
        (s.canTake true [e] = true → placed t e ∧ t.jrn.pass = some { p with phase := next }) ∧
        (s.canTake true [e] = false → kept t)) ∧
    ∀ p last, s.jrn.pass = some p → p.phase = .retired last → s.jrn.fault = none →
      let left := s.retiredSlots.filter (aboveLast last)
      (left ≠ [] → exec (.ckptEnd corrected) s = .next s ∧
        ∃ t, exec (.ckptRetired corrected) s = .next (t.afterReads corrected) ∧
        let e := Entry.ckptRetired (left.take 64)
        (s.canTake true [e] = true → placed t e ∧
          t.jrn.pass = some { p with phase := .retired (left.take 64).getLast? }) ∧
        (s.canTake true [e] = false → kept t)) ∧
      (left = [] → exec (.ckptRetired corrected) s = .next s ∧
        ∃ t, exec (.ckptEnd corrected) s = .next (t.afterReads corrected) ∧
        (s.canTake true [.ckptEnd p.number] = true → placed t (.ckptEnd p.number) ∧
          t.jrn.pass = some { p with phase := .ended t.jrn.lastJsn }) ∧
        (s.canTake true [.ckptEnd p.number] = false → kept t))

/-- A withdrawal of a warm start drops the first record with absorb-open set: its EXTENT_DROP is placed and its slots
go to the quarantine, keyed by it, and a SLOT_RETIRE follows for each of them that awaits retirement, marked
retire-on-exit (R83, R86). With the last one the part serves again, RESERVE_SLOTS within a quarter of SLOT_COUNT, and
RECOVERY_DONE is raised with the last JSN assigned (R30, R87, R159, R173). While the journal cannot take the entries
the part stays in RESUME. The words that its reads correct are counted, the command bringing their number (R189; log
7). -/
def Obligations.WithdrawalDrops : Prop :=
  ∀ (s : State) (r : Rec) (rest : List Rec) (corrected : Nat), s.awake = true → s.steady = true →
    s.recovery.service = .recovering → s.recovery.phase = .resume → s.absorbOpens = r :: rest → extentsSound s.records →
    s.jrn.lastJsn ≤ 4294967295 →
    let awaits := fun (n : Nat) => s.pool.pendingRetire.any (fun x => x.slot = n)
    ∃ t, exec (.withdrawal corrected) s = .next (t.afterReads corrected) ∧
      (((Change.start s).drop r).fits = true →
        t.records = s.records.filter (fun x => x.id ≠ r.id) ∧
        t.pool = { s.pool with
          quarantine := s.pool.quarantine ++ r.slots.map (fun n => ⟨n, jsnAdd s.jrn.lastJsn 1, awaits n⟩)
          pendingRetire := s.pool.pendingRetire.filter (fun x => x.slot ∉ r.slots) } ∧
        s.journaled t (.extentDrop r.first r.len ::
          (s.pool.pendingRetire.filter (fun x => x.slot ∈ r.slots)).map (fun x => .slotRetire x.slot)) ∧
          r.id ∉ t.plan.dirtyList ∧
        (rest ≠ [] → t.recovery = s.recovery ∧ t.params = s.params) ∧
        (rest = [] → t.recovery = { s.recovery with service := .serving, phase := .none } ∧
          t.params = { s.params with reserveSlots := min s.params.reserveSlots (s.map.slotCount / 4) } ∧
          Notice.recoveryDone t.jrn.lastJsn ∈ (t.port .iLink).notices)) ∧
      (((Change.start s).drop r).fits = false →
        t.map = s.map ∧ t.pool = s.pool ∧ t.recovery = s.recovery ∧ t.jrn.lastJsn = s.jrn.lastJsn) ∧
      s.keepsLists t ∧ t.work.jobs = s.work.jobs ∧
      s.changesOnly t [.ports, .params, .map, .writes, .pool, .plan, .work, .jrn, .recovery]

/-- No command of a part that serves or stands in RESUME, and goes on so, takes the flash copy of a record that R14
protects: its extent and its slot list stay as they were. R14 protects a record that is DIRTY or WRITING_BACK, or on
flash and pinned or with open writes. Where the command itself lifts a protection another must hold: a close or a
timeout ends an open write, UNPIN a pin, and the FINISH of a write-back the dirty grains. A record that its own
absorption's withdrawal may take, by a FAILED close or in RESUME, is not protected from it, and none is from a DISCARD.
-/
def Obligations.FlashCopyKept : Prop :=
  ∀ (s t : State) (c : Instr) (r : Rec), extentsSound s.records → s.serviceSound →
    s.serving = true ∨ s.recovery.phase = .resume → exec c s = .next t →
    t.serving = true ∨ t.recovery.phase = .resume →
    (∀ j ∈ s.work.jobs, ∀ x ∈ s.records, x.id = j.record →
      match j.kind with
      | .promote _ => x.state = .promoting
      | .writeback _ => x.state = .writingBack) →
    (∀ h w, s.openWrite h = some w → ∀ x ∈ s.createdBy w, x.absorbOpen = true) →
    let unclean := r.state = .dirty ∨ r.state = .writingBack
    (match c with
      | .discard _ _ _ _ => False
      | .writeClose _ _ _ _ _ => r.absorbOpen = false ∧ (unclean ∨ r.pinned = true ∨ 1 < r.openWrites)
      | .writeTimeout _ _ | .heldTimeoutClose _ _ | .setParam _ _ _ _ _ => unclean ∨ r.pinned = true
      | .unpin _ _ _ _ => unclean ∨ 0 < r.openWrites
      | .finish _ _ _ _ _ _ _ | .completingJobCompletion _ => r.state = .dirty ∨ r.pinned = true ∨ 0 < r.openWrites
      | .withdrawal _ => r.absorbOpen = false ∧ (unclean ∨ r.pinned = true ∨ 0 < r.openWrites)
      | _ => unclean ∨ r.pinned = true ∨ 0 < r.openWrites) →
    r ∈ s.records → r.onFlash = true →
    ∃ u ∈ t.records, u.id = r.id ∧ u.onFlash = true ∧ u.first = r.first ∧ u.len = r.len ∧ u.slots = r.slots
end

