-- ==== Sys2Proof/Laws/State.lean ====
section
/-! SUPPORT. The record laws of State: each field after each update, and updates that follow one another. -/

namespace Sys2Proof.Machine

@[simp] theorem State.setPending_pending (s : State) (x : List Instr) : (s.setPending x).pending = x := rfl
@[simp] theorem State.setPending_sent (s : State) (x : List Instr) : (s.setPending x).sent = s.sent := rfl
@[simp] theorem State.setPending_now (s : State) (x : List Instr) : (s.setPending x).now = s.now := rfl
@[simp] theorem State.setPending_ports (s : State) (x : List Instr) : (s.setPending x).ports = s.ports := rfl
@[simp] theorem State.setPending_params (s : State) (x : List Instr) : (s.setPending x).params = s.params := rfl
@[simp] theorem State.setPending_map (s : State) (x : List Instr) : (s.setPending x).map = s.map := rfl
@[simp] theorem State.setPending_heat (s : State) (x : List Instr) : (s.setPending x).heat = s.heat := rfl
@[simp] theorem State.setPending_writes (s : State) (x : List Instr) : (s.setPending x).writes = s.writes := rfl
@[simp] theorem State.setPending_pool (s : State) (x : List Instr) : (s.setPending x).pool = s.pool := rfl
@[simp] theorem State.setPending_plan (s : State) (x : List Instr) : (s.setPending x).plan = s.plan := rfl
@[simp] theorem State.setPending_owed (s : State) (x : List Instr) : (s.setPending x).owed = s.owed := rfl
@[simp] theorem State.setPending_work (s : State) (x : List Instr) : (s.setPending x).work = s.work := rfl
@[simp] theorem State.setPending_jrn (s : State) (x : List Instr) : (s.setPending x).jrn = s.jrn := rfl
@[simp] theorem State.setPending_recovery (s : State) (x : List Instr) : (s.setPending x).recovery = s.recovery := rfl
@[simp] theorem State.setPending_supply (s : State) (x : List Instr) : (s.setPending x).supply = s.supply := rfl
@[simp] theorem State.setPending_setPending (s : State) (x y : List Instr) : (s.setPending x).setPending y = s.setPending y := rfl
@[simp] theorem State.setPending_self (s : State) : s.setPending s.pending = s := rfl

@[simp] theorem State.setSent_pending (s : State) (x : List Reply) : (s.setSent x).pending = s.pending := rfl
@[simp] theorem State.setSent_sent (s : State) (x : List Reply) : (s.setSent x).sent = x := rfl
@[simp] theorem State.setSent_now (s : State) (x : List Reply) : (s.setSent x).now = s.now := rfl
@[simp] theorem State.setSent_ports (s : State) (x : List Reply) : (s.setSent x).ports = s.ports := rfl
@[simp] theorem State.setSent_params (s : State) (x : List Reply) : (s.setSent x).params = s.params := rfl
@[simp] theorem State.setSent_map (s : State) (x : List Reply) : (s.setSent x).map = s.map := rfl
@[simp] theorem State.setSent_heat (s : State) (x : List Reply) : (s.setSent x).heat = s.heat := rfl
@[simp] theorem State.setSent_writes (s : State) (x : List Reply) : (s.setSent x).writes = s.writes := rfl
@[simp] theorem State.setSent_pool (s : State) (x : List Reply) : (s.setSent x).pool = s.pool := rfl
@[simp] theorem State.setSent_plan (s : State) (x : List Reply) : (s.setSent x).plan = s.plan := rfl
@[simp] theorem State.setSent_owed (s : State) (x : List Reply) : (s.setSent x).owed = s.owed := rfl
@[simp] theorem State.setSent_work (s : State) (x : List Reply) : (s.setSent x).work = s.work := rfl
@[simp] theorem State.setSent_jrn (s : State) (x : List Reply) : (s.setSent x).jrn = s.jrn := rfl
@[simp] theorem State.setSent_recovery (s : State) (x : List Reply) : (s.setSent x).recovery = s.recovery := rfl
@[simp] theorem State.setSent_supply (s : State) (x : List Reply) : (s.setSent x).supply = s.supply := rfl
@[simp] theorem State.setSent_setSent (s : State) (x y : List Reply) : (s.setSent x).setSent y = s.setSent y := rfl
@[simp] theorem State.setSent_self (s : State) : s.setSent s.sent = s := rfl

@[simp] theorem State.setNow_pending (s : State) (x : Nat) : (s.setNow x).pending = s.pending := rfl
@[simp] theorem State.setNow_sent (s : State) (x : Nat) : (s.setNow x).sent = s.sent := rfl
@[simp] theorem State.setNow_now (s : State) (x : Nat) : (s.setNow x).now = x := rfl
@[simp] theorem State.setNow_ports (s : State) (x : Nat) : (s.setNow x).ports = s.ports := rfl
@[simp] theorem State.setNow_params (s : State) (x : Nat) : (s.setNow x).params = s.params := rfl
@[simp] theorem State.setNow_map (s : State) (x : Nat) : (s.setNow x).map = s.map := rfl
@[simp] theorem State.setNow_heat (s : State) (x : Nat) : (s.setNow x).heat = s.heat := rfl
@[simp] theorem State.setNow_writes (s : State) (x : Nat) : (s.setNow x).writes = s.writes := rfl
@[simp] theorem State.setNow_pool (s : State) (x : Nat) : (s.setNow x).pool = s.pool := rfl
@[simp] theorem State.setNow_plan (s : State) (x : Nat) : (s.setNow x).plan = s.plan := rfl
@[simp] theorem State.setNow_owed (s : State) (x : Nat) : (s.setNow x).owed = s.owed := rfl
@[simp] theorem State.setNow_work (s : State) (x : Nat) : (s.setNow x).work = s.work := rfl
@[simp] theorem State.setNow_jrn (s : State) (x : Nat) : (s.setNow x).jrn = s.jrn := rfl
@[simp] theorem State.setNow_recovery (s : State) (x : Nat) : (s.setNow x).recovery = s.recovery := rfl
@[simp] theorem State.setNow_supply (s : State) (x : Nat) : (s.setNow x).supply = s.supply := rfl
@[simp] theorem State.setNow_setNow (s : State) (x y : Nat) : (s.setNow x).setNow y = s.setNow y := rfl
@[simp] theorem State.setNow_self (s : State) : s.setNow s.now = s := rfl

@[simp] theorem State.setPorts_pending (s : State) (x : Ports) : (s.setPorts x).pending = s.pending := rfl
@[simp] theorem State.setPorts_sent (s : State) (x : Ports) : (s.setPorts x).sent = s.sent := rfl
@[simp] theorem State.setPorts_now (s : State) (x : Ports) : (s.setPorts x).now = s.now := rfl
@[simp] theorem State.setPorts_ports (s : State) (x : Ports) : (s.setPorts x).ports = x := rfl
@[simp] theorem State.setPorts_params (s : State) (x : Ports) : (s.setPorts x).params = s.params := rfl
@[simp] theorem State.setPorts_map (s : State) (x : Ports) : (s.setPorts x).map = s.map := rfl
@[simp] theorem State.setPorts_heat (s : State) (x : Ports) : (s.setPorts x).heat = s.heat := rfl
@[simp] theorem State.setPorts_writes (s : State) (x : Ports) : (s.setPorts x).writes = s.writes := rfl
@[simp] theorem State.setPorts_pool (s : State) (x : Ports) : (s.setPorts x).pool = s.pool := rfl
@[simp] theorem State.setPorts_plan (s : State) (x : Ports) : (s.setPorts x).plan = s.plan := rfl
@[simp] theorem State.setPorts_owed (s : State) (x : Ports) : (s.setPorts x).owed = s.owed := rfl
@[simp] theorem State.setPorts_work (s : State) (x : Ports) : (s.setPorts x).work = s.work := rfl
@[simp] theorem State.setPorts_jrn (s : State) (x : Ports) : (s.setPorts x).jrn = s.jrn := rfl
@[simp] theorem State.setPorts_recovery (s : State) (x : Ports) : (s.setPorts x).recovery = s.recovery := rfl
@[simp] theorem State.setPorts_supply (s : State) (x : Ports) : (s.setPorts x).supply = s.supply := rfl
@[simp] theorem State.setPorts_setPorts (s : State) (x y : Ports) : (s.setPorts x).setPorts y = s.setPorts y := rfl
@[simp] theorem State.setPorts_self (s : State) : s.setPorts s.ports = s := rfl

@[simp] theorem State.setParams_pending (s : State) (x : Params) : (s.setParams x).pending = s.pending := rfl
@[simp] theorem State.setParams_sent (s : State) (x : Params) : (s.setParams x).sent = s.sent := rfl
@[simp] theorem State.setParams_now (s : State) (x : Params) : (s.setParams x).now = s.now := rfl
@[simp] theorem State.setParams_ports (s : State) (x : Params) : (s.setParams x).ports = s.ports := rfl
@[simp] theorem State.setParams_params (s : State) (x : Params) : (s.setParams x).params = x := rfl
@[simp] theorem State.setParams_map (s : State) (x : Params) : (s.setParams x).map = s.map := rfl
@[simp] theorem State.setParams_heat (s : State) (x : Params) : (s.setParams x).heat = s.heat := rfl
@[simp] theorem State.setParams_writes (s : State) (x : Params) : (s.setParams x).writes = s.writes := rfl
@[simp] theorem State.setParams_pool (s : State) (x : Params) : (s.setParams x).pool = s.pool := rfl
@[simp] theorem State.setParams_plan (s : State) (x : Params) : (s.setParams x).plan = s.plan := rfl
@[simp] theorem State.setParams_owed (s : State) (x : Params) : (s.setParams x).owed = s.owed := rfl
@[simp] theorem State.setParams_work (s : State) (x : Params) : (s.setParams x).work = s.work := rfl
@[simp] theorem State.setParams_jrn (s : State) (x : Params) : (s.setParams x).jrn = s.jrn := rfl
@[simp] theorem State.setParams_recovery (s : State) (x : Params) : (s.setParams x).recovery = s.recovery := rfl
@[simp] theorem State.setParams_supply (s : State) (x : Params) : (s.setParams x).supply = s.supply := rfl
@[simp] theorem State.setParams_setParams (s : State) (x y : Params) : (s.setParams x).setParams y = s.setParams y := rfl
@[simp] theorem State.setParams_self (s : State) : s.setParams s.params = s := rfl

@[simp] theorem State.setMap_pending (s : State) (x : PlacementMap) : (s.setMap x).pending = s.pending := rfl
@[simp] theorem State.setMap_sent (s : State) (x : PlacementMap) : (s.setMap x).sent = s.sent := rfl
@[simp] theorem State.setMap_now (s : State) (x : PlacementMap) : (s.setMap x).now = s.now := rfl
@[simp] theorem State.setMap_ports (s : State) (x : PlacementMap) : (s.setMap x).ports = s.ports := rfl
@[simp] theorem State.setMap_params (s : State) (x : PlacementMap) : (s.setMap x).params = s.params := rfl
@[simp] theorem State.setMap_map (s : State) (x : PlacementMap) : (s.setMap x).map = x := rfl
@[simp] theorem State.setMap_heat (s : State) (x : PlacementMap) : (s.setMap x).heat = s.heat := rfl
@[simp] theorem State.setMap_writes (s : State) (x : PlacementMap) : (s.setMap x).writes = s.writes := rfl
@[simp] theorem State.setMap_pool (s : State) (x : PlacementMap) : (s.setMap x).pool = s.pool := rfl
@[simp] theorem State.setMap_plan (s : State) (x : PlacementMap) : (s.setMap x).plan = s.plan := rfl
@[simp] theorem State.setMap_owed (s : State) (x : PlacementMap) : (s.setMap x).owed = s.owed := rfl
@[simp] theorem State.setMap_work (s : State) (x : PlacementMap) : (s.setMap x).work = s.work := rfl
@[simp] theorem State.setMap_jrn (s : State) (x : PlacementMap) : (s.setMap x).jrn = s.jrn := rfl
@[simp] theorem State.setMap_recovery (s : State) (x : PlacementMap) : (s.setMap x).recovery = s.recovery := rfl
@[simp] theorem State.setMap_supply (s : State) (x : PlacementMap) : (s.setMap x).supply = s.supply := rfl
@[simp] theorem State.setMap_setMap (s : State) (x y : PlacementMap) : (s.setMap x).setMap y = s.setMap y := rfl
@[simp] theorem State.setMap_self (s : State) : s.setMap s.map = s := rfl

@[simp] theorem State.setHeat_pending (s : State) (x : HeatUnit) : (s.setHeat x).pending = s.pending := rfl
@[simp] theorem State.setHeat_sent (s : State) (x : HeatUnit) : (s.setHeat x).sent = s.sent := rfl
@[simp] theorem State.setHeat_now (s : State) (x : HeatUnit) : (s.setHeat x).now = s.now := rfl
@[simp] theorem State.setHeat_ports (s : State) (x : HeatUnit) : (s.setHeat x).ports = s.ports := rfl
@[simp] theorem State.setHeat_params (s : State) (x : HeatUnit) : (s.setHeat x).params = s.params := rfl
@[simp] theorem State.setHeat_map (s : State) (x : HeatUnit) : (s.setHeat x).map = s.map := rfl
@[simp] theorem State.setHeat_heat (s : State) (x : HeatUnit) : (s.setHeat x).heat = x := rfl
@[simp] theorem State.setHeat_writes (s : State) (x : HeatUnit) : (s.setHeat x).writes = s.writes := rfl
@[simp] theorem State.setHeat_pool (s : State) (x : HeatUnit) : (s.setHeat x).pool = s.pool := rfl
@[simp] theorem State.setHeat_plan (s : State) (x : HeatUnit) : (s.setHeat x).plan = s.plan := rfl
@[simp] theorem State.setHeat_owed (s : State) (x : HeatUnit) : (s.setHeat x).owed = s.owed := rfl
@[simp] theorem State.setHeat_work (s : State) (x : HeatUnit) : (s.setHeat x).work = s.work := rfl
@[simp] theorem State.setHeat_jrn (s : State) (x : HeatUnit) : (s.setHeat x).jrn = s.jrn := rfl
@[simp] theorem State.setHeat_recovery (s : State) (x : HeatUnit) : (s.setHeat x).recovery = s.recovery := rfl
@[simp] theorem State.setHeat_supply (s : State) (x : HeatUnit) : (s.setHeat x).supply = s.supply := rfl
@[simp] theorem State.setHeat_setHeat (s : State) (x y : HeatUnit) : (s.setHeat x).setHeat y = s.setHeat y := rfl
@[simp] theorem State.setHeat_self (s : State) : s.setHeat s.heat = s := rfl

@[simp] theorem State.setWrites_pending (s : State) (x : WriteTable) : (s.setWrites x).pending = s.pending := rfl
@[simp] theorem State.setWrites_sent (s : State) (x : WriteTable) : (s.setWrites x).sent = s.sent := rfl
@[simp] theorem State.setWrites_now (s : State) (x : WriteTable) : (s.setWrites x).now = s.now := rfl
@[simp] theorem State.setWrites_ports (s : State) (x : WriteTable) : (s.setWrites x).ports = s.ports := rfl
@[simp] theorem State.setWrites_params (s : State) (x : WriteTable) : (s.setWrites x).params = s.params := rfl
@[simp] theorem State.setWrites_map (s : State) (x : WriteTable) : (s.setWrites x).map = s.map := rfl
@[simp] theorem State.setWrites_heat (s : State) (x : WriteTable) : (s.setWrites x).heat = s.heat := rfl
@[simp] theorem State.setWrites_writes (s : State) (x : WriteTable) : (s.setWrites x).writes = x := rfl
@[simp] theorem State.setWrites_pool (s : State) (x : WriteTable) : (s.setWrites x).pool = s.pool := rfl
@[simp] theorem State.setWrites_plan (s : State) (x : WriteTable) : (s.setWrites x).plan = s.plan := rfl
@[simp] theorem State.setWrites_owed (s : State) (x : WriteTable) : (s.setWrites x).owed = s.owed := rfl
@[simp] theorem State.setWrites_work (s : State) (x : WriteTable) : (s.setWrites x).work = s.work := rfl
@[simp] theorem State.setWrites_jrn (s : State) (x : WriteTable) : (s.setWrites x).jrn = s.jrn := rfl
@[simp] theorem State.setWrites_recovery (s : State) (x : WriteTable) : (s.setWrites x).recovery = s.recovery := rfl
@[simp] theorem State.setWrites_supply (s : State) (x : WriteTable) : (s.setWrites x).supply = s.supply := rfl
@[simp] theorem State.setWrites_setWrites (s : State) (x y : WriteTable) : (s.setWrites x).setWrites y = s.setWrites y := rfl
@[simp] theorem State.setWrites_self (s : State) : s.setWrites s.writes = s := rfl

@[simp] theorem State.setPool_pending (s : State) (x : SlotPool) : (s.setPool x).pending = s.pending := rfl
@[simp] theorem State.setPool_sent (s : State) (x : SlotPool) : (s.setPool x).sent = s.sent := rfl
@[simp] theorem State.setPool_now (s : State) (x : SlotPool) : (s.setPool x).now = s.now := rfl
@[simp] theorem State.setPool_ports (s : State) (x : SlotPool) : (s.setPool x).ports = s.ports := rfl
@[simp] theorem State.setPool_params (s : State) (x : SlotPool) : (s.setPool x).params = s.params := rfl
@[simp] theorem State.setPool_map (s : State) (x : SlotPool) : (s.setPool x).map = s.map := rfl
@[simp] theorem State.setPool_heat (s : State) (x : SlotPool) : (s.setPool x).heat = s.heat := rfl
@[simp] theorem State.setPool_writes (s : State) (x : SlotPool) : (s.setPool x).writes = s.writes := rfl
@[simp] theorem State.setPool_pool (s : State) (x : SlotPool) : (s.setPool x).pool = x := rfl
@[simp] theorem State.setPool_plan (s : State) (x : SlotPool) : (s.setPool x).plan = s.plan := rfl
@[simp] theorem State.setPool_owed (s : State) (x : SlotPool) : (s.setPool x).owed = s.owed := rfl
@[simp] theorem State.setPool_work (s : State) (x : SlotPool) : (s.setPool x).work = s.work := rfl
@[simp] theorem State.setPool_jrn (s : State) (x : SlotPool) : (s.setPool x).jrn = s.jrn := rfl
@[simp] theorem State.setPool_recovery (s : State) (x : SlotPool) : (s.setPool x).recovery = s.recovery := rfl
@[simp] theorem State.setPool_supply (s : State) (x : SlotPool) : (s.setPool x).supply = s.supply := rfl
@[simp] theorem State.setPool_setPool (s : State) (x y : SlotPool) : (s.setPool x).setPool y = s.setPool y := rfl
@[simp] theorem State.setPool_self (s : State) : s.setPool s.pool = s := rfl

@[simp] theorem State.setPlan_pending (s : State) (x : Planner) : (s.setPlan x).pending = s.pending := rfl
@[simp] theorem State.setPlan_sent (s : State) (x : Planner) : (s.setPlan x).sent = s.sent := rfl
@[simp] theorem State.setPlan_now (s : State) (x : Planner) : (s.setPlan x).now = s.now := rfl
@[simp] theorem State.setPlan_ports (s : State) (x : Planner) : (s.setPlan x).ports = s.ports := rfl
@[simp] theorem State.setPlan_params (s : State) (x : Planner) : (s.setPlan x).params = s.params := rfl
@[simp] theorem State.setPlan_map (s : State) (x : Planner) : (s.setPlan x).map = s.map := rfl
@[simp] theorem State.setPlan_heat (s : State) (x : Planner) : (s.setPlan x).heat = s.heat := rfl
@[simp] theorem State.setPlan_writes (s : State) (x : Planner) : (s.setPlan x).writes = s.writes := rfl
@[simp] theorem State.setPlan_pool (s : State) (x : Planner) : (s.setPlan x).pool = s.pool := rfl
@[simp] theorem State.setPlan_plan (s : State) (x : Planner) : (s.setPlan x).plan = x := rfl
@[simp] theorem State.setPlan_owed (s : State) (x : Planner) : (s.setPlan x).owed = s.owed := rfl
@[simp] theorem State.setPlan_work (s : State) (x : Planner) : (s.setPlan x).work = s.work := rfl
@[simp] theorem State.setPlan_jrn (s : State) (x : Planner) : (s.setPlan x).jrn = s.jrn := rfl
@[simp] theorem State.setPlan_recovery (s : State) (x : Planner) : (s.setPlan x).recovery = s.recovery := rfl
@[simp] theorem State.setPlan_supply (s : State) (x : Planner) : (s.setPlan x).supply = s.supply := rfl
@[simp] theorem State.setPlan_setPlan (s : State) (x y : Planner) : (s.setPlan x).setPlan y = s.setPlan y := rfl
@[simp] theorem State.setPlan_self (s : State) : s.setPlan s.plan = s := rfl

@[simp] theorem State.setOwed_pending (s : State) (x : Option Start) : (s.setOwed x).pending = s.pending := rfl
@[simp] theorem State.setOwed_sent (s : State) (x : Option Start) : (s.setOwed x).sent = s.sent := rfl
@[simp] theorem State.setOwed_now (s : State) (x : Option Start) : (s.setOwed x).now = s.now := rfl
@[simp] theorem State.setOwed_ports (s : State) (x : Option Start) : (s.setOwed x).ports = s.ports := rfl
@[simp] theorem State.setOwed_params (s : State) (x : Option Start) : (s.setOwed x).params = s.params := rfl
@[simp] theorem State.setOwed_map (s : State) (x : Option Start) : (s.setOwed x).map = s.map := rfl
@[simp] theorem State.setOwed_heat (s : State) (x : Option Start) : (s.setOwed x).heat = s.heat := rfl
@[simp] theorem State.setOwed_writes (s : State) (x : Option Start) : (s.setOwed x).writes = s.writes := rfl
@[simp] theorem State.setOwed_pool (s : State) (x : Option Start) : (s.setOwed x).pool = s.pool := rfl
@[simp] theorem State.setOwed_plan (s : State) (x : Option Start) : (s.setOwed x).plan = s.plan := rfl
@[simp] theorem State.setOwed_owed (s : State) (x : Option Start) : (s.setOwed x).owed = x := rfl
@[simp] theorem State.setOwed_work (s : State) (x : Option Start) : (s.setOwed x).work = s.work := rfl
@[simp] theorem State.setOwed_jrn (s : State) (x : Option Start) : (s.setOwed x).jrn = s.jrn := rfl
@[simp] theorem State.setOwed_recovery (s : State) (x : Option Start) : (s.setOwed x).recovery = s.recovery := rfl
@[simp] theorem State.setOwed_supply (s : State) (x : Option Start) : (s.setOwed x).supply = s.supply := rfl
@[simp] theorem State.setOwed_setOwed (s : State) (x y : Option Start) : (s.setOwed x).setOwed y = s.setOwed y := rfl
@[simp] theorem State.setOwed_self (s : State) : s.setOwed s.owed = s := rfl

@[simp] theorem State.setWork_pending (s : State) (x : Work) : (s.setWork x).pending = s.pending := rfl
@[simp] theorem State.setWork_sent (s : State) (x : Work) : (s.setWork x).sent = s.sent := rfl
@[simp] theorem State.setWork_now (s : State) (x : Work) : (s.setWork x).now = s.now := rfl
@[simp] theorem State.setWork_ports (s : State) (x : Work) : (s.setWork x).ports = s.ports := rfl
@[simp] theorem State.setWork_params (s : State) (x : Work) : (s.setWork x).params = s.params := rfl
@[simp] theorem State.setWork_map (s : State) (x : Work) : (s.setWork x).map = s.map := rfl
@[simp] theorem State.setWork_heat (s : State) (x : Work) : (s.setWork x).heat = s.heat := rfl
@[simp] theorem State.setWork_writes (s : State) (x : Work) : (s.setWork x).writes = s.writes := rfl
@[simp] theorem State.setWork_pool (s : State) (x : Work) : (s.setWork x).pool = s.pool := rfl
@[simp] theorem State.setWork_plan (s : State) (x : Work) : (s.setWork x).plan = s.plan := rfl
@[simp] theorem State.setWork_owed (s : State) (x : Work) : (s.setWork x).owed = s.owed := rfl
@[simp] theorem State.setWork_work (s : State) (x : Work) : (s.setWork x).work = x := rfl
@[simp] theorem State.setWork_jrn (s : State) (x : Work) : (s.setWork x).jrn = s.jrn := rfl
@[simp] theorem State.setWork_recovery (s : State) (x : Work) : (s.setWork x).recovery = s.recovery := rfl
@[simp] theorem State.setWork_supply (s : State) (x : Work) : (s.setWork x).supply = s.supply := rfl
@[simp] theorem State.setWork_setWork (s : State) (x y : Work) : (s.setWork x).setWork y = s.setWork y := rfl
@[simp] theorem State.setWork_self (s : State) : s.setWork s.work = s := rfl

@[simp] theorem State.setJrn_pending (s : State) (x : Journal) : (s.setJrn x).pending = s.pending := rfl
@[simp] theorem State.setJrn_sent (s : State) (x : Journal) : (s.setJrn x).sent = s.sent := rfl
@[simp] theorem State.setJrn_now (s : State) (x : Journal) : (s.setJrn x).now = s.now := rfl
@[simp] theorem State.setJrn_ports (s : State) (x : Journal) : (s.setJrn x).ports = s.ports := rfl
@[simp] theorem State.setJrn_params (s : State) (x : Journal) : (s.setJrn x).params = s.params := rfl
@[simp] theorem State.setJrn_map (s : State) (x : Journal) : (s.setJrn x).map = s.map := rfl
@[simp] theorem State.setJrn_heat (s : State) (x : Journal) : (s.setJrn x).heat = s.heat := rfl
@[simp] theorem State.setJrn_writes (s : State) (x : Journal) : (s.setJrn x).writes = s.writes := rfl
@[simp] theorem State.setJrn_pool (s : State) (x : Journal) : (s.setJrn x).pool = s.pool := rfl
@[simp] theorem State.setJrn_plan (s : State) (x : Journal) : (s.setJrn x).plan = s.plan := rfl
@[simp] theorem State.setJrn_owed (s : State) (x : Journal) : (s.setJrn x).owed = s.owed := rfl
@[simp] theorem State.setJrn_work (s : State) (x : Journal) : (s.setJrn x).work = s.work := rfl
@[simp] theorem State.setJrn_jrn (s : State) (x : Journal) : (s.setJrn x).jrn = x := rfl
@[simp] theorem State.setJrn_recovery (s : State) (x : Journal) : (s.setJrn x).recovery = s.recovery := rfl
@[simp] theorem State.setJrn_supply (s : State) (x : Journal) : (s.setJrn x).supply = s.supply := rfl
@[simp] theorem State.setJrn_setJrn (s : State) (x y : Journal) : (s.setJrn x).setJrn y = s.setJrn y := rfl
@[simp] theorem State.setJrn_self (s : State) : s.setJrn s.jrn = s := rfl

@[simp] theorem State.setRecovery_pending (s : State) (x : Recovery) : (s.setRecovery x).pending = s.pending := rfl
@[simp] theorem State.setRecovery_sent (s : State) (x : Recovery) : (s.setRecovery x).sent = s.sent := rfl
@[simp] theorem State.setRecovery_now (s : State) (x : Recovery) : (s.setRecovery x).now = s.now := rfl
@[simp] theorem State.setRecovery_ports (s : State) (x : Recovery) : (s.setRecovery x).ports = s.ports := rfl
@[simp] theorem State.setRecovery_params (s : State) (x : Recovery) : (s.setRecovery x).params = s.params := rfl
@[simp] theorem State.setRecovery_map (s : State) (x : Recovery) : (s.setRecovery x).map = s.map := rfl
@[simp] theorem State.setRecovery_heat (s : State) (x : Recovery) : (s.setRecovery x).heat = s.heat := rfl
@[simp] theorem State.setRecovery_writes (s : State) (x : Recovery) : (s.setRecovery x).writes = s.writes := rfl
@[simp] theorem State.setRecovery_pool (s : State) (x : Recovery) : (s.setRecovery x).pool = s.pool := rfl
@[simp] theorem State.setRecovery_plan (s : State) (x : Recovery) : (s.setRecovery x).plan = s.plan := rfl
@[simp] theorem State.setRecovery_owed (s : State) (x : Recovery) : (s.setRecovery x).owed = s.owed := rfl
@[simp] theorem State.setRecovery_work (s : State) (x : Recovery) : (s.setRecovery x).work = s.work := rfl
@[simp] theorem State.setRecovery_jrn (s : State) (x : Recovery) : (s.setRecovery x).jrn = s.jrn := rfl
@[simp] theorem State.setRecovery_recovery (s : State) (x : Recovery) : (s.setRecovery x).recovery = x := rfl
@[simp] theorem State.setRecovery_supply (s : State) (x : Recovery) : (s.setRecovery x).supply = s.supply := rfl
@[simp] theorem State.setRecovery_setRecovery (s : State) (x y : Recovery) : (s.setRecovery x).setRecovery y = s.setRecovery y := rfl
@[simp] theorem State.setRecovery_self (s : State) : s.setRecovery s.recovery = s := rfl

@[simp] theorem State.setSupply_pending (s : State) (x : Supply) : (s.setSupply x).pending = s.pending := rfl
@[simp] theorem State.setSupply_sent (s : State) (x : Supply) : (s.setSupply x).sent = s.sent := rfl
@[simp] theorem State.setSupply_now (s : State) (x : Supply) : (s.setSupply x).now = s.now := rfl
@[simp] theorem State.setSupply_ports (s : State) (x : Supply) : (s.setSupply x).ports = s.ports := rfl
@[simp] theorem State.setSupply_params (s : State) (x : Supply) : (s.setSupply x).params = s.params := rfl
@[simp] theorem State.setSupply_map (s : State) (x : Supply) : (s.setSupply x).map = s.map := rfl
@[simp] theorem State.setSupply_heat (s : State) (x : Supply) : (s.setSupply x).heat = s.heat := rfl
@[simp] theorem State.setSupply_writes (s : State) (x : Supply) : (s.setSupply x).writes = s.writes := rfl
@[simp] theorem State.setSupply_pool (s : State) (x : Supply) : (s.setSupply x).pool = s.pool := rfl
@[simp] theorem State.setSupply_plan (s : State) (x : Supply) : (s.setSupply x).plan = s.plan := rfl
@[simp] theorem State.setSupply_owed (s : State) (x : Supply) : (s.setSupply x).owed = s.owed := rfl
@[simp] theorem State.setSupply_work (s : State) (x : Supply) : (s.setSupply x).work = s.work := rfl
@[simp] theorem State.setSupply_jrn (s : State) (x : Supply) : (s.setSupply x).jrn = s.jrn := rfl
@[simp] theorem State.setSupply_recovery (s : State) (x : Supply) : (s.setSupply x).recovery = s.recovery := rfl
@[simp] theorem State.setSupply_supply (s : State) (x : Supply) : (s.setSupply x).supply = x := rfl
@[simp] theorem State.setSupply_setSupply (s : State) (x y : Supply) : (s.setSupply x).setSupply y = s.setSupply y := rfl
@[simp] theorem State.setSupply_self (s : State) : s.setSupply s.supply = s := rfl

/-- Two states with equal fields are equal. -/
theorem State.eq_of_fields {s t : State}
    (h : s.pending = t.pending ∧ s.sent = t.sent ∧ s.now = t.now ∧ s.ports = t.ports ∧ s.params = t.params ∧
      s.map = t.map ∧ s.heat = t.heat ∧ s.writes = t.writes ∧ s.pool = t.pool ∧ s.plan = t.plan ∧ s.owed = t.owed ∧
      s.work = t.work ∧ s.jrn = t.jrn ∧ s.recovery = t.recovery ∧ s.supply = t.supply) : s = t := by
  cases s; cases t; simp_all

/-- A property that one step of a fold keeps is kept by the fold. -/
theorem foldl_keeps {α β : Type} (p : α → Prop) (f : α → β → α) (h : ∀ a b, p a → p (f a b)) (xs : List β) (a : α)
    (ha : p a) : p (xs.foldl f a) := by
  induction xs generalizing a with
  | nil => exact ha
  | cons x xs ih => exact ih (f a x) (h a x ha)

/-- A value that one step of a fold leaves alone is left alone by the fold. -/
theorem foldl_fixed {α β γ : Type} (g : α → γ) (f : α → β → α) (h : ∀ a b, g (f a b) = g a) (xs : List β) (a : α) :
    g (xs.foldl f a) = g a :=
  foldl_keeps (fun x => g x = g a) f (fun x b hx => (h x b).trans hx) xs a rfl

end Sys2Proof.Machine
end

