-- ==== Sys2Proof/Laws/Frames.lean ====
section
/-! SUPPORT. The frame of each shared operation: the blocks of State that it leaves alone. -/

namespace Sys2Proof.Machine

@[simp] theorem foldl_pending {β : Type} (f : State → β → State) (h : ∀ a b, (f a b).pending = a.pending) (xs : List β) (s : State) :
    (xs.foldl f s).pending = s.pending := foldl_fixed State.pending f h xs s
@[simp] theorem foldl_st_pending {β : Type} (f : Change → β → Change) (h : ∀ a b, (f a b).st.pending = a.st.pending) (xs : List β)
    (c : Change) : (xs.foldl f c).st.pending = c.st.pending := foldl_fixed (fun c => c.st.pending) f h xs c
@[simp] theorem foldl_sent {β : Type} (f : State → β → State) (h : ∀ a b, (f a b).sent = a.sent) (xs : List β) (s : State) :
    (xs.foldl f s).sent = s.sent := foldl_fixed State.sent f h xs s
@[simp] theorem foldl_st_sent {β : Type} (f : Change → β → Change) (h : ∀ a b, (f a b).st.sent = a.st.sent) (xs : List β)
    (c : Change) : (xs.foldl f c).st.sent = c.st.sent := foldl_fixed (fun c => c.st.sent) f h xs c
@[simp] theorem foldl_now {β : Type} (f : State → β → State) (h : ∀ a b, (f a b).now = a.now) (xs : List β) (s : State) :
    (xs.foldl f s).now = s.now := foldl_fixed State.now f h xs s
@[simp] theorem foldl_st_now {β : Type} (f : Change → β → Change) (h : ∀ a b, (f a b).st.now = a.st.now) (xs : List β)
    (c : Change) : (xs.foldl f c).st.now = c.st.now := foldl_fixed (fun c => c.st.now) f h xs c
@[simp] theorem foldl_ports {β : Type} (f : State → β → State) (h : ∀ a b, (f a b).ports = a.ports) (xs : List β) (s : State) :
    (xs.foldl f s).ports = s.ports := foldl_fixed State.ports f h xs s
@[simp] theorem foldl_st_ports {β : Type} (f : Change → β → Change) (h : ∀ a b, (f a b).st.ports = a.st.ports) (xs : List β)
    (c : Change) : (xs.foldl f c).st.ports = c.st.ports := foldl_fixed (fun c => c.st.ports) f h xs c
@[simp] theorem foldl_params {β : Type} (f : State → β → State) (h : ∀ a b, (f a b).params = a.params) (xs : List β) (s : State) :
    (xs.foldl f s).params = s.params := foldl_fixed State.params f h xs s
@[simp] theorem foldl_st_params {β : Type} (f : Change → β → Change) (h : ∀ a b, (f a b).st.params = a.st.params) (xs : List β)
    (c : Change) : (xs.foldl f c).st.params = c.st.params := foldl_fixed (fun c => c.st.params) f h xs c
@[simp] theorem foldl_map {β : Type} (f : State → β → State) (h : ∀ a b, (f a b).map = a.map) (xs : List β) (s : State) :
    (xs.foldl f s).map = s.map := foldl_fixed State.map f h xs s
@[simp] theorem foldl_st_map {β : Type} (f : Change → β → Change) (h : ∀ a b, (f a b).st.map = a.st.map) (xs : List β)
    (c : Change) : (xs.foldl f c).st.map = c.st.map := foldl_fixed (fun c => c.st.map) f h xs c
@[simp] theorem foldl_heat {β : Type} (f : State → β → State) (h : ∀ a b, (f a b).heat = a.heat) (xs : List β) (s : State) :
    (xs.foldl f s).heat = s.heat := foldl_fixed State.heat f h xs s
@[simp] theorem foldl_st_heat {β : Type} (f : Change → β → Change) (h : ∀ a b, (f a b).st.heat = a.st.heat) (xs : List β)
    (c : Change) : (xs.foldl f c).st.heat = c.st.heat := foldl_fixed (fun c => c.st.heat) f h xs c
@[simp] theorem foldl_writes {β : Type} (f : State → β → State) (h : ∀ a b, (f a b).writes = a.writes) (xs : List β) (s : State) :
    (xs.foldl f s).writes = s.writes := foldl_fixed State.writes f h xs s
@[simp] theorem foldl_st_writes {β : Type} (f : Change → β → Change) (h : ∀ a b, (f a b).st.writes = a.st.writes) (xs : List β)
    (c : Change) : (xs.foldl f c).st.writes = c.st.writes := foldl_fixed (fun c => c.st.writes) f h xs c
@[simp] theorem foldl_pool {β : Type} (f : State → β → State) (h : ∀ a b, (f a b).pool = a.pool) (xs : List β) (s : State) :
    (xs.foldl f s).pool = s.pool := foldl_fixed State.pool f h xs s
@[simp] theorem foldl_st_pool {β : Type} (f : Change → β → Change) (h : ∀ a b, (f a b).st.pool = a.st.pool) (xs : List β)
    (c : Change) : (xs.foldl f c).st.pool = c.st.pool := foldl_fixed (fun c => c.st.pool) f h xs c
@[simp] theorem foldl_plan {β : Type} (f : State → β → State) (h : ∀ a b, (f a b).plan = a.plan) (xs : List β) (s : State) :
    (xs.foldl f s).plan = s.plan := foldl_fixed State.plan f h xs s
@[simp] theorem foldl_st_plan {β : Type} (f : Change → β → Change) (h : ∀ a b, (f a b).st.plan = a.st.plan) (xs : List β)
    (c : Change) : (xs.foldl f c).st.plan = c.st.plan := foldl_fixed (fun c => c.st.plan) f h xs c
@[simp] theorem foldl_work {β : Type} (f : State → β → State) (h : ∀ a b, (f a b).work = a.work) (xs : List β) (s : State) :
    (xs.foldl f s).work = s.work := foldl_fixed State.work f h xs s
@[simp] theorem foldl_st_work {β : Type} (f : Change → β → Change) (h : ∀ a b, (f a b).st.work = a.st.work) (xs : List β)
    (c : Change) : (xs.foldl f c).st.work = c.st.work := foldl_fixed (fun c => c.st.work) f h xs c
@[simp] theorem foldl_jrn {β : Type} (f : State → β → State) (h : ∀ a b, (f a b).jrn = a.jrn) (xs : List β) (s : State) :
    (xs.foldl f s).jrn = s.jrn := foldl_fixed State.jrn f h xs s
@[simp] theorem foldl_st_jrn {β : Type} (f : Change → β → Change) (h : ∀ a b, (f a b).st.jrn = a.st.jrn) (xs : List β)
    (c : Change) : (xs.foldl f c).st.jrn = c.st.jrn := foldl_fixed (fun c => c.st.jrn) f h xs c
@[simp] theorem foldl_recovery {β : Type} (f : State → β → State) (h : ∀ a b, (f a b).recovery = a.recovery) (xs : List β) (s : State) :
    (xs.foldl f s).recovery = s.recovery := foldl_fixed State.recovery f h xs s
@[simp] theorem foldl_st_recovery {β : Type} (f : Change → β → Change) (h : ∀ a b, (f a b).st.recovery = a.st.recovery) (xs : List β)
    (c : Change) : (xs.foldl f c).st.recovery = c.st.recovery := foldl_fixed (fun c => c.st.recovery) f h xs c
@[simp] theorem foldl_supply {β : Type} (f : State → β → State) (h : ∀ a b, (f a b).supply = a.supply) (xs : List β) (s : State) :
    (xs.foldl f s).supply = s.supply := foldl_fixed State.supply f h xs s
@[simp] theorem foldl_st_supply {β : Type} (f : Change → β → Change) (h : ∀ a b, (f a b).st.supply = a.st.supply) (xs : List β)
    (c : Change) : (xs.foldl f c).st.supply = c.st.supply := foldl_fixed (fun c => c.st.supply) f h xs c
@[simp] theorem foldl_owed {β : Type} (f : State → β → State) (h : ∀ a b, (f a b).owed = a.owed) (xs : List β) (s : State) :
    (xs.foldl f s).owed = s.owed := foldl_fixed State.owed f h xs s
@[simp] theorem foldl_st_owed {β : Type} (f : Change → β → Change) (h : ∀ a b, (f a b).st.owed = a.st.owed) (xs : List β)
    (c : Change) : (xs.foldl f c).st.owed = c.st.owed := foldl_fixed (fun c => c.st.owed) f h xs c
@[simp] theorem Change.place_st (c : Change) (e : Entry) : (c.place e).st = c.st := by unfold Change.place; rfl
@[simp] theorem Change.on_st (c : Change) (f : State → State) : (c.on f).st = f c.st := by unfold Change.on; rfl
@[simp] theorem Change.start_st (s : State) : (Change.start s).st = s := by unfold Change.start; rfl


@[simp] theorem State.setPort_frame (s : State) (x : Link) (y : Port) :
    (State.setPort s x y).pending = s.pending ∧ (State.setPort s x y).sent = s.sent ∧
    (State.setPort s x y).now = s.now ∧ (State.setPort s x y).params = s.params ∧
    (State.setPort s x y).map = s.map ∧ (State.setPort s x y).heat = s.heat ∧
    (State.setPort s x y).writes = s.writes ∧ (State.setPort s x y).pool = s.pool ∧
    (State.setPort s x y).plan = s.plan ∧ (State.setPort s x y).work = s.work ∧ (State.setPort s x y).jrn = s.jrn ∧
    (State.setPort s x y).recovery = s.recovery ∧ (State.setPort s x y).supply = s.supply ∧
    (State.setPort s x y).owed = s.owed := by
  unfold State.setPort
  simp

@[simp] theorem State.judgePort_frame (s : State) (x : Link) :
    (State.judgePort s x).pending = s.pending ∧ (State.judgePort s x).sent = s.sent ∧
    (State.judgePort s x).now = s.now ∧ (State.judgePort s x).params = s.params ∧
    (State.judgePort s x).map = s.map ∧ (State.judgePort s x).heat = s.heat ∧
    (State.judgePort s x).writes = s.writes ∧ (State.judgePort s x).pool = s.pool ∧
    (State.judgePort s x).plan = s.plan ∧ (State.judgePort s x).work = s.work ∧ (State.judgePort s x).jrn = s.jrn ∧
    (State.judgePort s x).recovery = s.recovery ∧ (State.judgePort s x).supply = s.supply ∧
    (State.judgePort s x).owed = s.owed := by
  unfold State.judgePort
  repeat' split
  all_goals simp

@[simp] theorem State.raise_frame (s : State) (x : Link) (y : Notice) :
    (State.raise s x y).pending = s.pending ∧ (State.raise s x y).sent = s.sent ∧ (State.raise s x y).now = s.now ∧
    (State.raise s x y).params = s.params ∧ (State.raise s x y).map = s.map ∧ (State.raise s x y).heat = s.heat ∧
    (State.raise s x y).writes = s.writes ∧ (State.raise s x y).pool = s.pool ∧ (State.raise s x y).plan = s.plan ∧
    (State.raise s x y).work = s.work ∧ (State.raise s x y).jrn = s.jrn ∧
    (State.raise s x y).recovery = s.recovery ∧ (State.raise s x y).supply = s.supply ∧
    (State.raise s x y).owed = s.owed := by
  simp [State.raise]

@[simp] theorem State.raiseAll_frame (s : State) (x : Notice) :
    (State.raiseAll s x).pending = s.pending ∧ (State.raiseAll s x).sent = s.sent ∧
    (State.raiseAll s x).now = s.now ∧ (State.raiseAll s x).params = s.params ∧ (State.raiseAll s x).map = s.map ∧
    (State.raiseAll s x).heat = s.heat ∧ (State.raiseAll s x).writes = s.writes ∧
    (State.raiseAll s x).pool = s.pool ∧ (State.raiseAll s x).plan = s.plan ∧ (State.raiseAll s x).work = s.work ∧
    (State.raiseAll s x).jrn = s.jrn ∧ (State.raiseAll s x).recovery = s.recovery ∧
    (State.raiseAll s x).supply = s.supply ∧
    (State.raiseAll s x).owed = s.owed := by
  simp [State.raiseAll]

@[simp] theorem State.judgePorts_frame (s : State) :
    (State.judgePorts s).pending = s.pending ∧ (State.judgePorts s).sent = s.sent ∧
    (State.judgePorts s).now = s.now ∧ (State.judgePorts s).params = s.params ∧ (State.judgePorts s).map = s.map ∧
    (State.judgePorts s).heat = s.heat ∧ (State.judgePorts s).writes = s.writes ∧
    (State.judgePorts s).pool = s.pool ∧ (State.judgePorts s).plan = s.plan ∧ (State.judgePorts s).work = s.work ∧
    (State.judgePorts s).jrn = s.jrn ∧ (State.judgePorts s).recovery = s.recovery ∧
    (State.judgePorts s).supply = s.supply ∧
    (State.judgePorts s).owed = s.owed := by
  simp [State.judgePorts]

@[simp] theorem State.clearOrdersReady_frame (s : State) :
    (State.clearOrdersReady s).pending = s.pending ∧ (State.clearOrdersReady s).sent = s.sent ∧
    (State.clearOrdersReady s).now = s.now ∧ (State.clearOrdersReady s).params = s.params ∧
    (State.clearOrdersReady s).map = s.map ∧ (State.clearOrdersReady s).heat = s.heat ∧
    (State.clearOrdersReady s).writes = s.writes ∧ (State.clearOrdersReady s).pool = s.pool ∧
    (State.clearOrdersReady s).plan = s.plan ∧ (State.clearOrdersReady s).work = s.work ∧
    (State.clearOrdersReady s).jrn = s.jrn ∧ (State.clearOrdersReady s).recovery = s.recovery ∧
    (State.clearOrdersReady s).supply = s.supply ∧
    (State.clearOrdersReady s).owed = s.owed := by
  simp [State.clearOrdersReady]

@[simp] theorem State.send_frame (s : State) (x : Reply) :
    (State.send s x).pending = s.pending ∧ (State.send s x).now = s.now ∧ (State.send s x).ports = s.ports ∧
    (State.send s x).params = s.params ∧ (State.send s x).map = s.map ∧ (State.send s x).heat = s.heat ∧
    (State.send s x).writes = s.writes ∧ (State.send s x).pool = s.pool ∧ (State.send s x).plan = s.plan ∧
    (State.send s x).work = s.work ∧ (State.send s x).jrn = s.jrn ∧ (State.send s x).recovery = s.recovery ∧
    (State.send s x).supply = s.supply ∧
    (State.send s x).owed = s.owed := by
  simp [State.send]

@[simp] theorem State.answerWhere_frame (s : State) (x : Link) (y : Accepted → Option (ReplyCode × ReplyBody)) :
    (State.answerWhere s x y).pending = s.pending ∧ (State.answerWhere s x y).now = s.now ∧
    (State.answerWhere s x y).params = s.params ∧ (State.answerWhere s x y).map = s.map ∧
    (State.answerWhere s x y).heat = s.heat ∧ (State.answerWhere s x y).writes = s.writes ∧
    (State.answerWhere s x y).pool = s.pool ∧ (State.answerWhere s x y).plan = s.plan ∧
    (State.answerWhere s x y).work = s.work ∧ (State.answerWhere s x y).jrn = s.jrn ∧
    (State.answerWhere s x y).recovery = s.recovery ∧ (State.answerWhere s x y).supply = s.supply ∧
    (State.answerWhere s x y).owed = s.owed := by
  simp [State.answerWhere]

@[simp] theorem State.answerRefused_frame (s : State) (x : Link) :
    (State.answerRefused s x).pending = s.pending ∧ (State.answerRefused s x).now = s.now ∧
    (State.answerRefused s x).params = s.params ∧ (State.answerRefused s x).map = s.map ∧
    (State.answerRefused s x).heat = s.heat ∧ (State.answerRefused s x).writes = s.writes ∧
    (State.answerRefused s x).pool = s.pool ∧ (State.answerRefused s x).plan = s.plan ∧
    (State.answerRefused s x).work = s.work ∧ (State.answerRefused s x).jrn = s.jrn ∧
    (State.answerRefused s x).recovery = s.recovery ∧ (State.answerRefused s x).supply = s.supply ∧
    (State.answerRefused s x).owed = s.owed := by
  simp [State.answerRefused]

@[simp] theorem State.answerTaken_frame (s : State) (x : Link) (y : Accepted) (z : ReplyCode) (u : ReplyBody) :
    (State.answerTaken s x y z u).pending = s.pending ∧ (State.answerTaken s x y z u).now = s.now ∧
    (State.answerTaken s x y z u).params = s.params ∧ (State.answerTaken s x y z u).map = s.map ∧
    (State.answerTaken s x y z u).heat = s.heat ∧ (State.answerTaken s x y z u).writes = s.writes ∧
    (State.answerTaken s x y z u).pool = s.pool ∧ (State.answerTaken s x y z u).plan = s.plan ∧
    (State.answerTaken s x y z u).work = s.work ∧ (State.answerTaken s x y z u).jrn = s.jrn ∧
    (State.answerTaken s x y z u).recovery = s.recovery ∧ (State.answerTaken s x y z u).supply = s.supply ∧
    (State.answerTaken s x y z u).owed = s.owed := by
  simp [State.answerTaken]

@[simp] theorem State.deferTaken_frame (s : State) (x : Link) (y : Standing) :
    (State.deferTaken s x y).pending = s.pending ∧ (State.deferTaken s x y).now = s.now ∧
    (State.deferTaken s x y).params = s.params ∧ (State.deferTaken s x y).map = s.map ∧
    (State.deferTaken s x y).heat = s.heat ∧ (State.deferTaken s x y).writes = s.writes ∧
    (State.deferTaken s x y).pool = s.pool ∧ (State.deferTaken s x y).plan = s.plan ∧
    (State.deferTaken s x y).work = s.work ∧ (State.deferTaken s x y).jrn = s.jrn ∧
    (State.deferTaken s x y).recovery = s.recovery ∧ (State.deferTaken s x y).supply = s.supply ∧
    (State.deferTaken s x y).owed = s.owed := by
  simp [State.deferTaken]

@[simp] theorem State.setRecords_frame (s : State) (x : List Rec) :
    (State.setRecords s x).pending = s.pending ∧ (State.setRecords s x).sent = s.sent ∧
    (State.setRecords s x).now = s.now ∧ (State.setRecords s x).ports = s.ports ∧
    (State.setRecords s x).params = s.params ∧ (State.setRecords s x).heat = s.heat ∧
    (State.setRecords s x).writes = s.writes ∧ (State.setRecords s x).pool = s.pool ∧
    (State.setRecords s x).plan = s.plan ∧ (State.setRecords s x).work = s.work ∧
    (State.setRecords s x).jrn = s.jrn ∧ (State.setRecords s x).recovery = s.recovery ∧
    (State.setRecords s x).supply = s.supply ∧
    (State.setRecords s x).owed = s.owed := by
  simp [State.setRecords]

@[simp] theorem State.addRecord_frame (s : State) (x : Rec) :
    (State.addRecord s x).pending = s.pending ∧ (State.addRecord s x).sent = s.sent ∧
    (State.addRecord s x).now = s.now ∧ (State.addRecord s x).ports = s.ports ∧
    (State.addRecord s x).params = s.params ∧ (State.addRecord s x).heat = s.heat ∧
    (State.addRecord s x).writes = s.writes ∧ (State.addRecord s x).pool = s.pool ∧
    (State.addRecord s x).plan = s.plan ∧ (State.addRecord s x).work = s.work ∧ (State.addRecord s x).jrn = s.jrn ∧
    (State.addRecord s x).recovery = s.recovery ∧ (State.addRecord s x).supply = s.supply ∧
    (State.addRecord s x).owed = s.owed := by
  simp [State.addRecord]

@[simp] theorem State.updateRecord_frame (s : State) (x : Nat) (y : Rec → Rec) :
    (State.updateRecord s x y).pending = s.pending ∧ (State.updateRecord s x y).sent = s.sent ∧
    (State.updateRecord s x y).now = s.now ∧ (State.updateRecord s x y).ports = s.ports ∧
    (State.updateRecord s x y).params = s.params ∧ (State.updateRecord s x y).heat = s.heat ∧
    (State.updateRecord s x y).writes = s.writes ∧ (State.updateRecord s x y).pool = s.pool ∧
    (State.updateRecord s x y).plan = s.plan ∧ (State.updateRecord s x y).work = s.work ∧
    (State.updateRecord s x y).jrn = s.jrn ∧ (State.updateRecord s x y).recovery = s.recovery ∧
    (State.updateRecord s x y).supply = s.supply ∧
    (State.updateRecord s x y).owed = s.owed := by
  simp [State.updateRecord]

@[simp] theorem State.streamUpdate_frame (s : State) (x : Nat) (y : Nat) :
    (State.streamUpdate s x y).pending = s.pending ∧ (State.streamUpdate s x y).sent = s.sent ∧
    (State.streamUpdate s x y).now = s.now ∧ (State.streamUpdate s x y).ports = s.ports ∧
    (State.streamUpdate s x y).params = s.params ∧ (State.streamUpdate s x y).map = s.map ∧
    (State.streamUpdate s x y).writes = s.writes ∧ (State.streamUpdate s x y).pool = s.pool ∧
    (State.streamUpdate s x y).plan = s.plan ∧ (State.streamUpdate s x y).work = s.work ∧
    (State.streamUpdate s x y).jrn = s.jrn ∧ (State.streamUpdate s x y).recovery = s.recovery ∧
    (State.streamUpdate s x y).supply = s.supply ∧
    (State.streamUpdate s x y).owed = s.owed := by
  simp [State.streamUpdate]

@[simp] theorem State.debit_frame (s : State) (x : Nat) :
    (State.debit s x).pending = s.pending ∧ (State.debit s x).sent = s.sent ∧ (State.debit s x).now = s.now ∧
    (State.debit s x).ports = s.ports ∧ (State.debit s x).params = s.params ∧ (State.debit s x).map = s.map ∧
    (State.debit s x).writes = s.writes ∧ (State.debit s x).pool = s.pool ∧ (State.debit s x).plan = s.plan ∧
    (State.debit s x).work = s.work ∧ (State.debit s x).jrn = s.jrn ∧ (State.debit s x).recovery = s.recovery ∧
    (State.debit s x).supply = s.supply ∧
    (State.debit s x).owed = s.owed := by
  simp [State.debit]

@[simp] theorem State.refill_frame (s : State) :
    (State.refill s).pending = s.pending ∧ (State.refill s).sent = s.sent ∧ (State.refill s).now = s.now ∧
    (State.refill s).ports = s.ports ∧ (State.refill s).params = s.params ∧ (State.refill s).map = s.map ∧
    (State.refill s).writes = s.writes ∧ (State.refill s).pool = s.pool ∧ (State.refill s).plan = s.plan ∧
    (State.refill s).work = s.work ∧ (State.refill s).jrn = s.jrn ∧ (State.refill s).recovery = s.recovery ∧
    (State.refill s).supply = s.supply ∧
    (State.refill s).owed = s.owed := by
  simp [State.refill]

@[simp] theorem State.setCandidates_frame (s : State) (x : List Candidate) :
    (State.setCandidates s x).pending = s.pending ∧ (State.setCandidates s x).sent = s.sent ∧
    (State.setCandidates s x).now = s.now ∧ (State.setCandidates s x).ports = s.ports ∧
    (State.setCandidates s x).params = s.params ∧ (State.setCandidates s x).map = s.map ∧
    (State.setCandidates s x).heat = s.heat ∧ (State.setCandidates s x).writes = s.writes ∧
    (State.setCandidates s x).pool = s.pool ∧ (State.setCandidates s x).work = s.work ∧
    (State.setCandidates s x).jrn = s.jrn ∧ (State.setCandidates s x).recovery = s.recovery ∧
    (State.setCandidates s x).supply = s.supply ∧
    (State.setCandidates s x).owed = s.owed := by
  simp [State.setCandidates]

@[simp] theorem State.headCheck_frame (s : State) :
    (State.headCheck s).pending = s.pending ∧ (State.headCheck s).sent = s.sent ∧ (State.headCheck s).now = s.now ∧
    (State.headCheck s).ports = s.ports ∧ (State.headCheck s).params = s.params ∧ (State.headCheck s).map = s.map ∧
    (State.headCheck s).heat = s.heat ∧ (State.headCheck s).writes = s.writes ∧ (State.headCheck s).pool = s.pool ∧
    (State.headCheck s).work = s.work ∧ (State.headCheck s).jrn = s.jrn ∧
    (State.headCheck s).recovery = s.recovery ∧ (State.headCheck s).supply = s.supply ∧
    (State.headCheck s).owed = s.owed := by
  simp [State.headCheck]

@[simp] theorem State.replaceCandidates_frame (s : State) (x : List Candidate) :
    (State.replaceCandidates s x).pending = s.pending ∧ (State.replaceCandidates s x).sent = s.sent ∧
    (State.replaceCandidates s x).now = s.now ∧ (State.replaceCandidates s x).ports = s.ports ∧
    (State.replaceCandidates s x).params = s.params ∧ (State.replaceCandidates s x).map = s.map ∧
    (State.replaceCandidates s x).heat = s.heat ∧ (State.replaceCandidates s x).writes = s.writes ∧
    (State.replaceCandidates s x).pool = s.pool ∧ (State.replaceCandidates s x).work = s.work ∧
    (State.replaceCandidates s x).jrn = s.jrn ∧ (State.replaceCandidates s x).recovery = s.recovery ∧
    (State.replaceCandidates s x).supply = s.supply ∧
    (State.replaceCandidates s x).owed = s.owed := by
  unfold State.replaceCandidates
  repeat' split
  all_goals simp

@[simp] theorem State.removeCandidate_frame (s : State) (x : Nat) :
    (State.removeCandidate s x).pending = s.pending ∧ (State.removeCandidate s x).sent = s.sent ∧
    (State.removeCandidate s x).now = s.now ∧ (State.removeCandidate s x).ports = s.ports ∧
    (State.removeCandidate s x).params = s.params ∧ (State.removeCandidate s x).map = s.map ∧
    (State.removeCandidate s x).heat = s.heat ∧ (State.removeCandidate s x).writes = s.writes ∧
    (State.removeCandidate s x).pool = s.pool ∧ (State.removeCandidate s x).work = s.work ∧
    (State.removeCandidate s x).jrn = s.jrn ∧ (State.removeCandidate s x).recovery = s.recovery ∧
    (State.removeCandidate s x).supply = s.supply ∧
    (State.removeCandidate s x).owed = s.owed := by
  simp [State.removeCandidate]

@[simp] theorem State.offerCandidate_frame (s : State) (x : Nat) :
    (State.offerCandidate s x).pending = s.pending ∧ (State.offerCandidate s x).sent = s.sent ∧
    (State.offerCandidate s x).now = s.now ∧ (State.offerCandidate s x).ports = s.ports ∧
    (State.offerCandidate s x).params = s.params ∧ (State.offerCandidate s x).map = s.map ∧
    (State.offerCandidate s x).heat = s.heat ∧ (State.offerCandidate s x).writes = s.writes ∧
    (State.offerCandidate s x).pool = s.pool ∧ (State.offerCandidate s x).work = s.work ∧
    (State.offerCandidate s x).jrn = s.jrn ∧ (State.offerCandidate s x).recovery = s.recovery ∧
    (State.offerCandidate s x).supply = s.supply ∧
    (State.offerCandidate s x).owed = s.owed := by
  unfold State.offerCandidate
  repeat' split
  all_goals simp

@[simp] theorem State.evaluate_frame (s : State) (x : Nat) :
    (State.evaluate s x).pending = s.pending ∧ (State.evaluate s x).sent = s.sent ∧
    (State.evaluate s x).now = s.now ∧ (State.evaluate s x).ports = s.ports ∧
    (State.evaluate s x).params = s.params ∧ (State.evaluate s x).map = s.map ∧ (State.evaluate s x).heat = s.heat ∧
    (State.evaluate s x).writes = s.writes ∧ (State.evaluate s x).pool = s.pool ∧
    (State.evaluate s x).work = s.work ∧ (State.evaluate s x).jrn = s.jrn ∧
    (State.evaluate s x).recovery = s.recovery ∧ (State.evaluate s x).supply = s.supply ∧
    (State.evaluate s x).owed = s.owed := by
  unfold State.evaluate
  repeat' split
  all_goals simp

@[simp] theorem State.touch_frame (s : State) (x : Nat) (y : Nat) :
    (State.touch s x y).pending = s.pending ∧ (State.touch s x y).sent = s.sent ∧ (State.touch s x y).now = s.now ∧
    (State.touch s x y).ports = s.ports ∧ (State.touch s x y).params = s.params ∧
    (State.touch s x y).heat = s.heat ∧ (State.touch s x y).writes = s.writes ∧ (State.touch s x y).pool = s.pool ∧
    (State.touch s x y).work = s.work ∧ (State.touch s x y).jrn = s.jrn ∧
    (State.touch s x y).recovery = s.recovery ∧ (State.touch s x y).supply = s.supply ∧
    (State.touch s x y).owed = s.owed := by
  simp [State.touch]

@[simp] theorem State.removeVictim_frame (s : State) (x : Nat) :
    (State.removeVictim s x).pending = s.pending ∧ (State.removeVictim s x).sent = s.sent ∧
    (State.removeVictim s x).now = s.now ∧ (State.removeVictim s x).ports = s.ports ∧
    (State.removeVictim s x).params = s.params ∧ (State.removeVictim s x).map = s.map ∧
    (State.removeVictim s x).heat = s.heat ∧ (State.removeVictim s x).writes = s.writes ∧
    (State.removeVictim s x).pool = s.pool ∧ (State.removeVictim s x).work = s.work ∧
    (State.removeVictim s x).jrn = s.jrn ∧ (State.removeVictim s x).recovery = s.recovery ∧
    (State.removeVictim s x).supply = s.supply ∧
    (State.removeVictim s x).owed = s.owed := by
  simp [State.removeVictim]

@[simp] theorem State.dirtyTail_frame (s : State) (x : Nat) :
    (State.dirtyTail s x).pending = s.pending ∧ (State.dirtyTail s x).sent = s.sent ∧
    (State.dirtyTail s x).now = s.now ∧ (State.dirtyTail s x).ports = s.ports ∧
    (State.dirtyTail s x).params = s.params ∧ (State.dirtyTail s x).map = s.map ∧
    (State.dirtyTail s x).heat = s.heat ∧ (State.dirtyTail s x).writes = s.writes ∧
    (State.dirtyTail s x).pool = s.pool ∧ (State.dirtyTail s x).work = s.work ∧ (State.dirtyTail s x).jrn = s.jrn ∧
    (State.dirtyTail s x).recovery = s.recovery ∧ (State.dirtyTail s x).supply = s.supply ∧
    (State.dirtyTail s x).owed = s.owed := by
  unfold State.dirtyTail
  repeat' split
  all_goals simp

@[simp] theorem State.dirtyHead_frame (s : State) (x : Nat) :
    (State.dirtyHead s x).pending = s.pending ∧ (State.dirtyHead s x).sent = s.sent ∧
    (State.dirtyHead s x).now = s.now ∧ (State.dirtyHead s x).ports = s.ports ∧
    (State.dirtyHead s x).params = s.params ∧ (State.dirtyHead s x).map = s.map ∧
    (State.dirtyHead s x).heat = s.heat ∧ (State.dirtyHead s x).writes = s.writes ∧
    (State.dirtyHead s x).pool = s.pool ∧ (State.dirtyHead s x).work = s.work ∧ (State.dirtyHead s x).jrn = s.jrn ∧
    (State.dirtyHead s x).recovery = s.recovery ∧ (State.dirtyHead s x).supply = s.supply ∧
    (State.dirtyHead s x).owed = s.owed := by
  simp [State.dirtyHead]

@[simp] theorem State.dirtyLeave_frame (s : State) (x : Nat) :
    (State.dirtyLeave s x).pending = s.pending ∧ (State.dirtyLeave s x).sent = s.sent ∧
    (State.dirtyLeave s x).now = s.now ∧ (State.dirtyLeave s x).ports = s.ports ∧
    (State.dirtyLeave s x).params = s.params ∧ (State.dirtyLeave s x).map = s.map ∧
    (State.dirtyLeave s x).heat = s.heat ∧ (State.dirtyLeave s x).writes = s.writes ∧
    (State.dirtyLeave s x).pool = s.pool ∧ (State.dirtyLeave s x).work = s.work ∧
    (State.dirtyLeave s x).jrn = s.jrn ∧ (State.dirtyLeave s x).recovery = s.recovery ∧
    (State.dirtyLeave s x).supply = s.supply ∧
    (State.dirtyLeave s x).owed = s.owed := by
  simp [State.dirtyLeave]

@[simp] theorem State.dropListings_frame (s : State) (x : Nat) :
    (State.dropListings s x).pending = s.pending ∧ (State.dropListings s x).sent = s.sent ∧
    (State.dropListings s x).now = s.now ∧ (State.dropListings s x).ports = s.ports ∧
    (State.dropListings s x).params = s.params ∧ (State.dropListings s x).map = s.map ∧
    (State.dropListings s x).heat = s.heat ∧ (State.dropListings s x).pool = s.pool ∧
    (State.dropListings s x).plan = s.plan ∧ (State.dropListings s x).work = s.work ∧
    (State.dropListings s x).jrn = s.jrn ∧ (State.dropListings s x).recovery = s.recovery ∧
    (State.dropListings s x).supply = s.supply ∧
    (State.dropListings s x).owed = s.owed := by
  simp [State.dropListings]

@[simp] theorem State.dropRecord_frame (s : State) (x : Nat) :
    (State.dropRecord s x).pending = s.pending ∧ (State.dropRecord s x).sent = s.sent ∧
    (State.dropRecord s x).now = s.now ∧ (State.dropRecord s x).ports = s.ports ∧
    (State.dropRecord s x).params = s.params ∧ (State.dropRecord s x).heat = s.heat ∧
    (State.dropRecord s x).pool = s.pool ∧ (State.dropRecord s x).work = s.work ∧
    (State.dropRecord s x).jrn = s.jrn ∧ (State.dropRecord s x).recovery = s.recovery ∧
    (State.dropRecord s x).supply = s.supply ∧
    (State.dropRecord s x).owed = s.owed := by
  simp [State.dropRecord]

@[simp] theorem State.judgeSpinWanted_frame (s : State) :
    (State.judgeSpinWanted s).pending = s.pending ∧ (State.judgeSpinWanted s).sent = s.sent ∧
    (State.judgeSpinWanted s).now = s.now ∧ (State.judgeSpinWanted s).params = s.params ∧
    (State.judgeSpinWanted s).map = s.map ∧ (State.judgeSpinWanted s).heat = s.heat ∧
    (State.judgeSpinWanted s).writes = s.writes ∧ (State.judgeSpinWanted s).pool = s.pool ∧
    (State.judgeSpinWanted s).work = s.work ∧ (State.judgeSpinWanted s).jrn = s.jrn ∧
    (State.judgeSpinWanted s).recovery = s.recovery ∧ (State.judgeSpinWanted s).supply = s.supply ∧
    (State.judgeSpinWanted s).owed = s.owed := by
  unfold State.judgeSpinWanted
  repeat' split
  all_goals simp

@[simp] theorem State.bumpGen_frame (s : State) (x : Nat) :
    (State.bumpGen s x).pending = s.pending ∧ (State.bumpGen s x).sent = s.sent ∧ (State.bumpGen s x).now = s.now ∧
    (State.bumpGen s x).ports = s.ports ∧ (State.bumpGen s x).params = s.params ∧ (State.bumpGen s x).map = s.map ∧
    (State.bumpGen s x).heat = s.heat ∧ (State.bumpGen s x).writes = s.writes ∧ (State.bumpGen s x).pool = s.pool ∧
    (State.bumpGen s x).plan = s.plan ∧ (State.bumpGen s x).jrn = s.jrn ∧
    (State.bumpGen s x).recovery = s.recovery ∧ (State.bumpGen s x).supply = s.supply ∧
    (State.bumpGen s x).owed = s.owed := by
  simp [State.bumpGen]

@[simp] theorem State.readyF_frame (s : State) :
    (State.readyF s).pending = s.pending ∧ (State.readyF s).sent = s.sent ∧ (State.readyF s).now = s.now ∧
    (State.readyF s).params = s.params ∧ (State.readyF s).map = s.map ∧ (State.readyF s).heat = s.heat ∧
    (State.readyF s).writes = s.writes ∧ (State.readyF s).pool = s.pool ∧ (State.readyF s).plan = s.plan ∧
    (State.readyF s).work = s.work ∧ (State.readyF s).jrn = s.jrn ∧ (State.readyF s).recovery = s.recovery ∧
    (State.readyF s).supply = s.supply ∧
    (State.readyF s).owed = s.owed := by
  unfold State.readyF
  repeat' split
  all_goals simp

@[simp] theorem State.readyD_frame (s : State) :
    (State.readyD s).pending = s.pending ∧ (State.readyD s).sent = s.sent ∧ (State.readyD s).now = s.now ∧
    (State.readyD s).params = s.params ∧ (State.readyD s).map = s.map ∧ (State.readyD s).heat = s.heat ∧
    (State.readyD s).writes = s.writes ∧ (State.readyD s).pool = s.pool ∧ (State.readyD s).plan = s.plan ∧
    (State.readyD s).work = s.work ∧ (State.readyD s).jrn = s.jrn ∧ (State.readyD s).recovery = s.recovery ∧
    (State.readyD s).supply = s.supply ∧
    (State.readyD s).owed = s.owed := by
  unfold State.readyD
  repeat' split
  all_goals simp

@[simp] theorem State.joinD_frame (s : State) (x : Order) :
    (State.joinD s x).pending = s.pending ∧ (State.joinD s x).sent = s.sent ∧ (State.joinD s x).now = s.now ∧
    (State.joinD s x).params = s.params ∧ (State.joinD s x).map = s.map ∧ (State.joinD s x).heat = s.heat ∧
    (State.joinD s x).writes = s.writes ∧ (State.joinD s x).pool = s.pool ∧ (State.joinD s x).plan = s.plan ∧
    (State.joinD s x).jrn = s.jrn ∧ (State.joinD s x).recovery = s.recovery ∧
    (State.joinD s x).supply = s.supply ∧
    (State.joinD s x).owed = s.owed := by
  simp [State.joinD]

@[simp] theorem State.joinMig_frame (s : State) (x : Order) :
    (State.joinMig s x).pending = s.pending ∧ (State.joinMig s x).sent = s.sent ∧ (State.joinMig s x).now = s.now ∧
    (State.joinMig s x).params = s.params ∧ (State.joinMig s x).map = s.map ∧ (State.joinMig s x).heat = s.heat ∧
    (State.joinMig s x).writes = s.writes ∧ (State.joinMig s x).pool = s.pool ∧ (State.joinMig s x).plan = s.plan ∧
    (State.joinMig s x).jrn = s.jrn ∧ (State.joinMig s x).recovery = s.recovery ∧
    (State.joinMig s x).supply = s.supply ∧
    (State.joinMig s x).owed = s.owed := by
  simp [State.joinMig]

@[simp] theorem State.joinPage_frame (s : State) (x : Order) (y : Bool) :
    (State.joinPage s x y).pending = s.pending ∧ (State.joinPage s x y).sent = s.sent ∧
    (State.joinPage s x y).now = s.now ∧ (State.joinPage s x y).ports = s.ports ∧
    (State.joinPage s x y).params = s.params ∧ (State.joinPage s x y).map = s.map ∧
    (State.joinPage s x y).heat = s.heat ∧ (State.joinPage s x y).writes = s.writes ∧
    (State.joinPage s x y).pool = s.pool ∧ (State.joinPage s x y).plan = s.plan ∧
    (State.joinPage s x y).jrn = s.jrn ∧ (State.joinPage s x y).recovery = s.recovery ∧
    (State.joinPage s x y).supply = s.supply ∧
    (State.joinPage s x y).owed = s.owed := by
  simp [State.joinPage]

theorem State.makePageOrder_frame {s : State} {i : Nat} {b : OrderBody} {h r : Bool} {t : State} {id : Nat}
    (e : s.makePageOrder i b h r = some (t, id)) :
    t.pending = s.pending ∧ t.sent = s.sent ∧ t.now = s.now ∧ t.params = s.params ∧ t.map = s.map ∧ t.heat = s.heat ∧ t.writes = s.writes ∧ t.pool = s.pool ∧ t.plan = s.plan ∧ t.jrn = s.jrn ∧ t.recovery = s.recovery ∧ t.supply = s.supply ∧
    t.owed = s.owed := by
  unfold State.makePageOrder at e
  split at e
  · cases e
  · split at e <;> cases e
    cases r <;> simp

@[simp] theorem State.withdrawOrder_frame (s : State) (x : Nat) :
    (State.withdrawOrder s x).pending = s.pending ∧ (State.withdrawOrder s x).sent = s.sent ∧
    (State.withdrawOrder s x).now = s.now ∧ (State.withdrawOrder s x).ports = s.ports ∧
    (State.withdrawOrder s x).params = s.params ∧ (State.withdrawOrder s x).map = s.map ∧
    (State.withdrawOrder s x).heat = s.heat ∧ (State.withdrawOrder s x).writes = s.writes ∧
    (State.withdrawOrder s x).pool = s.pool ∧ (State.withdrawOrder s x).plan = s.plan ∧
    (State.withdrawOrder s x).jrn = s.jrn ∧ (State.withdrawOrder s x).recovery = s.recovery ∧
    (State.withdrawOrder s x).supply = s.supply ∧
    (State.withdrawOrder s x).owed = s.owed := by
  simp [State.withdrawOrder]

@[simp] theorem State.setIssued_frame (s : State) (x : Link) (y : List Order) :
    (State.setIssued s x y).pending = s.pending ∧ (State.setIssued s x y).sent = s.sent ∧
    (State.setIssued s x y).now = s.now ∧ (State.setIssued s x y).ports = s.ports ∧
    (State.setIssued s x y).params = s.params ∧ (State.setIssued s x y).map = s.map ∧
    (State.setIssued s x y).heat = s.heat ∧ (State.setIssued s x y).writes = s.writes ∧
    (State.setIssued s x y).pool = s.pool ∧ (State.setIssued s x y).plan = s.plan ∧
    (State.setIssued s x y).jrn = s.jrn ∧ (State.setIssued s x y).recovery = s.recovery ∧
    (State.setIssued s x y).supply = s.supply ∧
    (State.setIssued s x y).owed = s.owed := by
  unfold State.setIssued
  repeat' split
  all_goals simp

@[simp] theorem State.setImages_frame (s : State) (x : List Image) :
    (State.setImages s x).pending = s.pending ∧ (State.setImages s x).sent = s.sent ∧
    (State.setImages s x).now = s.now ∧ (State.setImages s x).ports = s.ports ∧
    (State.setImages s x).params = s.params ∧ (State.setImages s x).map = s.map ∧
    (State.setImages s x).heat = s.heat ∧ (State.setImages s x).writes = s.writes ∧
    (State.setImages s x).pool = s.pool ∧ (State.setImages s x).plan = s.plan ∧
    (State.setImages s x).work = s.work ∧ (State.setImages s x).recovery = s.recovery ∧
    (State.setImages s x).supply = s.supply ∧
    (State.setImages s x).owed = s.owed := by
  simp [State.setImages]

@[simp] theorem State.giveOrder_frame (s : State) (x : Nat) (y : Bool) :
    (State.giveOrder s x y).pending = s.pending ∧ (State.giveOrder s x y).sent = s.sent ∧
    (State.giveOrder s x y).now = s.now ∧ (State.giveOrder s x y).params = s.params ∧
    (State.giveOrder s x y).map = s.map ∧ (State.giveOrder s x y).heat = s.heat ∧
    (State.giveOrder s x y).writes = s.writes ∧ (State.giveOrder s x y).pool = s.pool ∧
    (State.giveOrder s x y).plan = s.plan ∧ (State.giveOrder s x y).recovery = s.recovery ∧
    (State.giveOrder s x y).supply = s.supply ∧
    (State.giveOrder s x y).owed = s.owed := by
  unfold State.giveOrder
  split
  · simp
  · split
    · simp
    · dsimp only
      split
      · simp
      · rename_i e
        simp [State.makePageOrder_frame e]

@[simp] theorem State.giveOrders_frame (s : State) :
    (State.giveOrders s).pending = s.pending ∧ (State.giveOrders s).sent = s.sent ∧
    (State.giveOrders s).now = s.now ∧ (State.giveOrders s).params = s.params ∧ (State.giveOrders s).map = s.map ∧
    (State.giveOrders s).heat = s.heat ∧ (State.giveOrders s).writes = s.writes ∧
    (State.giveOrders s).pool = s.pool ∧ (State.giveOrders s).plan = s.plan ∧
    (State.giveOrders s).recovery = s.recovery ∧ (State.giveOrders s).supply = s.supply ∧
    (State.giveOrders s).owed = s.owed := by
  simp [State.giveOrders]

@[simp] theorem State.makeImage_frame (s : State) (x : Bool) :
    (State.makeImage s x).pending = s.pending ∧ (State.makeImage s x).sent = s.sent ∧
    (State.makeImage s x).now = s.now ∧ (State.makeImage s x).params = s.params ∧
    (State.makeImage s x).map = s.map ∧ (State.makeImage s x).heat = s.heat ∧
    (State.makeImage s x).writes = s.writes ∧ (State.makeImage s x).pool = s.pool ∧
    (State.makeImage s x).plan = s.plan ∧ (State.makeImage s x).recovery = s.recovery ∧
    (State.makeImage s x).supply = s.supply ∧
    (State.makeImage s x).owed = s.owed := by
  unfold State.makeImage
  dsimp only
  repeat' split
  all_goals simp

@[simp] theorem State.emit_frame (s : State) (x : Bool) :
    (State.emit s x).pending = s.pending ∧ (State.emit s x).sent = s.sent ∧ (State.emit s x).now = s.now ∧
    (State.emit s x).params = s.params ∧ (State.emit s x).map = s.map ∧ (State.emit s x).heat = s.heat ∧
    (State.emit s x).writes = s.writes ∧ (State.emit s x).pool = s.pool ∧ (State.emit s x).plan = s.plan ∧
    (State.emit s x).recovery = s.recovery ∧ (State.emit s x).supply = s.supply ∧
    (State.emit s x).owed = s.owed := by
  unfold State.emit
  repeat' split
  all_goals simp

@[simp] theorem State.tryFinal_frame (s : State) :
    (State.tryFinal s).pending = s.pending ∧ (State.tryFinal s).sent = s.sent ∧ (State.tryFinal s).now = s.now ∧
    (State.tryFinal s).params = s.params ∧ (State.tryFinal s).map = s.map ∧ (State.tryFinal s).heat = s.heat ∧
    (State.tryFinal s).writes = s.writes ∧ (State.tryFinal s).pool = s.pool ∧ (State.tryFinal s).plan = s.plan ∧
    (State.tryFinal s).recovery = s.recovery ∧ (State.tryFinal s).supply = s.supply ∧
    (State.tryFinal s).owed = s.owed := by
  unfold State.tryFinal
  repeat' split
  all_goals simp

@[simp] theorem State.tryPending_frame (s : State) :
    (State.tryPending s).pending = s.pending ∧ (State.tryPending s).sent = s.sent ∧
    (State.tryPending s).now = s.now ∧ (State.tryPending s).params = s.params ∧ (State.tryPending s).map = s.map ∧
    (State.tryPending s).heat = s.heat ∧ (State.tryPending s).writes = s.writes ∧
    (State.tryPending s).pool = s.pool ∧ (State.tryPending s).plan = s.plan ∧
    (State.tryPending s).recovery = s.recovery ∧ (State.tryPending s).supply = s.supply ∧
    (State.tryPending s).owed = s.owed := by
  unfold State.tryPending
  repeat' split
  all_goals simp

@[simp] theorem State.openNext_frame (s : State) :
    (State.openNext s).pending = s.pending ∧ (State.openNext s).sent = s.sent ∧ (State.openNext s).now = s.now ∧
    (State.openNext s).ports = s.ports ∧ (State.openNext s).params = s.params ∧ (State.openNext s).map = s.map ∧
    (State.openNext s).heat = s.heat ∧ (State.openNext s).writes = s.writes ∧ (State.openNext s).pool = s.pool ∧
    (State.openNext s).plan = s.plan ∧ (State.openNext s).work = s.work ∧ (State.openNext s).recovery = s.recovery ∧
    (State.openNext s).supply = s.supply ∧
    (State.openNext s).owed = s.owed := by
  simp [State.openNext]

@[simp] theorem State.tryOpen_frame (s : State) (x : Bool) :
    (State.tryOpen s x).pending = s.pending ∧ (State.tryOpen s x).sent = s.sent ∧ (State.tryOpen s x).now = s.now ∧
    (State.tryOpen s x).ports = s.ports ∧ (State.tryOpen s x).params = s.params ∧ (State.tryOpen s x).map = s.map ∧
    (State.tryOpen s x).heat = s.heat ∧ (State.tryOpen s x).writes = s.writes ∧ (State.tryOpen s x).pool = s.pool ∧
    (State.tryOpen s x).plan = s.plan ∧ (State.tryOpen s x).work = s.work ∧
    (State.tryOpen s x).recovery = s.recovery ∧ (State.tryOpen s x).supply = s.supply ∧
    (State.tryOpen s x).owed = s.owed := by
  unfold State.tryOpen
  repeat' split
  all_goals simp

@[simp] theorem State.journalAdvance_frame (s : State) :
    (State.journalAdvance s).pending = s.pending ∧ (State.journalAdvance s).sent = s.sent ∧
    (State.journalAdvance s).now = s.now ∧ (State.journalAdvance s).params = s.params ∧
    (State.journalAdvance s).map = s.map ∧ (State.journalAdvance s).heat = s.heat ∧
    (State.journalAdvance s).writes = s.writes ∧ (State.journalAdvance s).pool = s.pool ∧
    (State.journalAdvance s).plan = s.plan ∧ (State.journalAdvance s).recovery = s.recovery ∧
    (State.journalAdvance s).supply = s.supply ∧
    (State.journalAdvance s).owed = s.owed := by
  simp [State.journalAdvance]

@[simp] theorem State.prepare_frame (s : State) (x : Bool) :
    (State.prepare s x).pending = s.pending ∧ (State.prepare s x).sent = s.sent ∧ (State.prepare s x).now = s.now ∧
    (State.prepare s x).params = s.params ∧ (State.prepare s x).map = s.map ∧ (State.prepare s x).heat = s.heat ∧
    (State.prepare s x).writes = s.writes ∧ (State.prepare s x).pool = s.pool ∧ (State.prepare s x).plan = s.plan ∧
    (State.prepare s x).recovery = s.recovery ∧ (State.prepare s x).supply = s.supply ∧
    (State.prepare s x).owed = s.owed := by
  unfold State.prepare
  repeat' split
  all_goals simp

@[simp] theorem State.placeEntry_frame (s : State) (x : Entry) :
    (State.placeEntry s x).pending = s.pending ∧ (State.placeEntry s x).sent = s.sent ∧
    (State.placeEntry s x).now = s.now ∧ (State.placeEntry s x).ports = s.ports ∧
    (State.placeEntry s x).params = s.params ∧ (State.placeEntry s x).map = s.map ∧
    (State.placeEntry s x).heat = s.heat ∧ (State.placeEntry s x).writes = s.writes ∧
    (State.placeEntry s x).pool = s.pool ∧ (State.placeEntry s x).plan = s.plan ∧
    (State.placeEntry s x).work = s.work ∧ (State.placeEntry s x).recovery = s.recovery ∧
    (State.placeEntry s x).supply = s.supply ∧
    (State.placeEntry s x).owed = s.owed := by
  unfold State.placeEntry
  repeat' split
  all_goals simp

@[simp] theorem State.placeEntries_frame (s : State) (x : List Entry) :
    (State.placeEntries s x).pending = s.pending ∧ (State.placeEntries s x).sent = s.sent ∧
    (State.placeEntries s x).now = s.now ∧ (State.placeEntries s x).ports = s.ports ∧
    (State.placeEntries s x).params = s.params ∧ (State.placeEntries s x).map = s.map ∧
    (State.placeEntries s x).heat = s.heat ∧ (State.placeEntries s x).writes = s.writes ∧
    (State.placeEntries s x).pool = s.pool ∧ (State.placeEntries s x).plan = s.plan ∧
    (State.placeEntries s x).work = s.work ∧ (State.placeEntries s x).recovery = s.recovery ∧
    (State.placeEntries s x).supply = s.supply ∧
    (State.placeEntries s x).owed = s.owed := by
  simp [State.placeEntries]

@[simp] theorem State.markFull_frame (s : State) :
    (State.markFull s).pending = s.pending ∧ (State.markFull s).sent = s.sent ∧ (State.markFull s).now = s.now ∧
    (State.markFull s).ports = s.ports ∧ (State.markFull s).params = s.params ∧ (State.markFull s).map = s.map ∧
    (State.markFull s).heat = s.heat ∧ (State.markFull s).writes = s.writes ∧ (State.markFull s).pool = s.pool ∧
    (State.markFull s).plan = s.plan ∧ (State.markFull s).work = s.work ∧ (State.markFull s).recovery = s.recovery ∧
    (State.markFull s).supply = s.supply ∧
    (State.markFull s).owed = s.owed := by
  unfold State.markFull
  repeat' split
  all_goals simp

@[simp] theorem State.offer_frame (s : State) (x : Bool) (y : List Entry) :
    (State.offer s x y).1.pending = s.pending ∧ (State.offer s x y).1.sent = s.sent ∧
    (State.offer s x y).1.now = s.now ∧ (State.offer s x y).1.params = s.params ∧
    (State.offer s x y).1.map = s.map ∧ (State.offer s x y).1.heat = s.heat ∧
    (State.offer s x y).1.writes = s.writes ∧ (State.offer s x y).1.pool = s.pool ∧
    (State.offer s x y).1.plan = s.plan ∧ (State.offer s x y).1.recovery = s.recovery ∧
    (State.offer s x y).1.supply = s.supply ∧
    (State.offer s x y).1.owed = s.owed := by
  unfold State.offer
  dsimp only
  repeat' split
  all_goals simp

@[simp] theorem Change.commit_pending (c : Change) (b : Bool) (s : State) :
    (c.commit b s).1.pending = if (c.st.offer b c.entries).2 then c.st.pending else s.pending := by
  unfold Change.commit; split <;> simp
@[simp] theorem Change.commit_owed (c : Change) (b : Bool) (s : State) :
    (c.commit b s).1.owed = if (c.commit b s).2 then c.st.owed else s.owed := by
  unfold Change.commit; split <;> simp
@[simp] theorem Change.commit_sent (c : Change) (b : Bool) (s : State) :
    (c.commit b s).1.sent = if (c.st.offer b c.entries).2 then c.st.sent else s.sent := by
  unfold Change.commit; split <;> simp
@[simp] theorem Change.commit_now (c : Change) (b : Bool) (s : State) :
    (c.commit b s).1.now = if (c.st.offer b c.entries).2 then c.st.now else s.now := by
  unfold Change.commit; split <;> simp
@[simp] theorem Change.commit_params (c : Change) (b : Bool) (s : State) :
    (c.commit b s).1.params = if (c.st.offer b c.entries).2 then c.st.params else s.params := by
  unfold Change.commit; split <;> simp
@[simp] theorem Change.commit_map (c : Change) (b : Bool) (s : State) :
    (c.commit b s).1.map = if (c.st.offer b c.entries).2 then c.st.map else s.map := by
  unfold Change.commit; split <;> simp
@[simp] theorem Change.commit_heat (c : Change) (b : Bool) (s : State) :
    (c.commit b s).1.heat = if (c.st.offer b c.entries).2 then c.st.heat else s.heat := by
  unfold Change.commit; split <;> simp
@[simp] theorem Change.commit_writes (c : Change) (b : Bool) (s : State) :
    (c.commit b s).1.writes = if (c.st.offer b c.entries).2 then c.st.writes else s.writes := by
  unfold Change.commit; split <;> simp
@[simp] theorem Change.commit_pool (c : Change) (b : Bool) (s : State) :
    (c.commit b s).1.pool = if (c.st.offer b c.entries).2 then c.st.pool else s.pool := by
  unfold Change.commit; split <;> simp
@[simp] theorem Change.commit_plan (c : Change) (b : Bool) (s : State) :
    (c.commit b s).1.plan = if (c.st.offer b c.entries).2 then c.st.plan else s.plan := by
  unfold Change.commit; split <;> simp
@[simp] theorem Change.commit_recovery (c : Change) (b : Bool) (s : State) :
    (c.commit b s).1.recovery = if (c.st.offer b c.entries).2 then c.st.recovery else s.recovery := by
  unfold Change.commit; split <;> simp
@[simp] theorem Change.commit_supply (c : Change) (b : Bool) (s : State) :
    (c.commit b s).1.supply = if (c.st.offer b c.entries).2 then c.st.supply else s.supply := by
  unfold Change.commit; split <;> simp


@[simp] theorem Change.release_frame (c : Change) (x : Rec) :
    (Change.release c x).st.pending = c.st.pending ∧ (Change.release c x).st.sent = c.st.sent ∧
    (Change.release c x).st.now = c.st.now ∧ (Change.release c x).st.ports = c.st.ports ∧
    (Change.release c x).st.params = c.st.params ∧ (Change.release c x).st.heat = c.st.heat ∧
    (Change.release c x).st.writes = c.st.writes ∧ (Change.release c x).st.plan = c.st.plan ∧
    (Change.release c x).st.work = c.st.work ∧ (Change.release c x).st.jrn = c.st.jrn ∧
    (Change.release c x).st.recovery = c.st.recovery ∧ (Change.release c x).st.supply = c.st.supply ∧
    (Change.release c x).st.owed = c.st.owed := by
  simp [Change.release]

@[simp] theorem Change.drop_frame (c : Change) (x : Rec) :
    (Change.drop c x).st.pending = c.st.pending ∧ (Change.drop c x).st.sent = c.st.sent ∧
    (Change.drop c x).st.now = c.st.now ∧ (Change.drop c x).st.ports = c.st.ports ∧
    (Change.drop c x).st.params = c.st.params ∧ (Change.drop c x).st.heat = c.st.heat ∧
    (Change.drop c x).st.work = c.st.work ∧ (Change.drop c x).st.jrn = c.st.jrn ∧
    (Change.drop c x).st.recovery = c.st.recovery ∧ (Change.drop c x).st.supply = c.st.supply ∧
    (Change.drop c x).st.owed = c.st.owed := by
  simp [Change.drop]

@[simp] theorem Change.commitAbsorption_frame (c : Change) (x : Rec) :
    (Change.commitAbsorption c x).st.pending = c.st.pending ∧ (Change.commitAbsorption c x).st.sent = c.st.sent ∧
    (Change.commitAbsorption c x).st.now = c.st.now ∧ (Change.commitAbsorption c x).st.ports = c.st.ports ∧
    (Change.commitAbsorption c x).st.params = c.st.params ∧ (Change.commitAbsorption c x).st.heat = c.st.heat ∧
    (Change.commitAbsorption c x).st.writes = c.st.writes ∧ (Change.commitAbsorption c x).st.pool = c.st.pool ∧
    (Change.commitAbsorption c x).st.work = c.st.work ∧ (Change.commitAbsorption c x).st.jrn = c.st.jrn ∧
    (Change.commitAbsorption c x).st.recovery = c.st.recovery ∧
    (Change.commitAbsorption c x).st.supply = c.st.supply ∧
    (Change.commitAbsorption c x).st.owed = c.st.owed := by
  simp [Change.commitAbsorption]

@[simp] theorem State.attemptRelease_frame (s : State) (x : Nat) :
    (State.attemptRelease s x).pending = s.pending ∧ (State.attemptRelease s x).sent = s.sent ∧
    (State.attemptRelease s x).now = s.now ∧ (State.attemptRelease s x).params = s.params ∧
    (State.attemptRelease s x).heat = s.heat ∧ (State.attemptRelease s x).writes = s.writes ∧
    (State.attemptRelease s x).plan = s.plan ∧ (State.attemptRelease s x).recovery = s.recovery ∧
    (State.attemptRelease s x).supply = s.supply ∧
    (State.attemptRelease s x).owed = s.owed := by
  unfold State.attemptRelease
  repeat' split
  all_goals simp

@[simp] theorem State.updateJob_frame (s : State) (x : Nat) (y : Job → Job) :
    (State.updateJob s x y).pending = s.pending ∧ (State.updateJob s x y).sent = s.sent ∧
    (State.updateJob s x y).now = s.now ∧ (State.updateJob s x y).ports = s.ports ∧
    (State.updateJob s x y).params = s.params ∧ (State.updateJob s x y).map = s.map ∧
    (State.updateJob s x y).heat = s.heat ∧ (State.updateJob s x y).writes = s.writes ∧
    (State.updateJob s x y).pool = s.pool ∧ (State.updateJob s x y).plan = s.plan ∧
    (State.updateJob s x y).jrn = s.jrn ∧ (State.updateJob s x y).recovery = s.recovery ∧
    (State.updateJob s x y).supply = s.supply ∧
    (State.updateJob s x y).owed = s.owed := by
  simp [State.updateJob]

@[simp] theorem State.endJob_frame (s : State) (x : Nat) :
    (State.endJob s x).pending = s.pending ∧ (State.endJob s x).sent = s.sent ∧ (State.endJob s x).now = s.now ∧
    (State.endJob s x).ports = s.ports ∧ (State.endJob s x).params = s.params ∧ (State.endJob s x).map = s.map ∧
    (State.endJob s x).heat = s.heat ∧ (State.endJob s x).writes = s.writes ∧ (State.endJob s x).pool = s.pool ∧
    (State.endJob s x).plan = s.plan ∧ (State.endJob s x).jrn = s.jrn ∧ (State.endJob s x).recovery = s.recovery ∧
    (State.endJob s x).supply = s.supply ∧
    (State.endJob s x).owed = s.owed := by
  simp [State.endJob]

@[simp] theorem State.cancelJob_frame (s : State) (x : Job) :
    (State.cancelJob s x).pending = s.pending ∧ (State.cancelJob s x).sent = s.sent ∧
    (State.cancelJob s x).now = s.now ∧ (State.cancelJob s x).ports = s.ports ∧
    (State.cancelJob s x).params = s.params ∧ (State.cancelJob s x).heat = s.heat ∧
    (State.cancelJob s x).writes = s.writes ∧ (State.cancelJob s x).jrn = s.jrn ∧
    (State.cancelJob s x).recovery = s.recovery ∧ (State.cancelJob s x).supply = s.supply ∧
    (State.cancelJob s x).owed = s.owed := by
  unfold State.cancelJob
  repeat' split
  all_goals simp

@[simp] theorem State.failJob_frame (s : State) (x : Job) :
    (State.failJob s x).pending = s.pending ∧ (State.failJob s x).sent = s.sent ∧ (State.failJob s x).now = s.now ∧
    (State.failJob s x).params = s.params ∧ (State.failJob s x).heat = s.heat ∧
    (State.failJob s x).writes = s.writes ∧ (State.failJob s x).jrn = s.jrn ∧
    (State.failJob s x).recovery = s.recovery ∧ (State.failJob s x).supply = s.supply ∧
    (State.failJob s x).owed = s.owed := by
  unfold State.failJob
  dsimp only
  repeat' split
  all_goals simp

@[simp] theorem State.completionChange_frame (s : State) (x : Job) :
    (State.completionChange s x).st.pending = s.pending ∧ (State.completionChange s x).st.sent = s.sent ∧
    (State.completionChange s x).st.now = s.now ∧ (State.completionChange s x).st.ports = s.ports ∧
    (State.completionChange s x).st.params = s.params ∧ (State.completionChange s x).st.heat = s.heat ∧
    (State.completionChange s x).st.writes = s.writes ∧ (State.completionChange s x).st.pool = s.pool ∧
    (State.completionChange s x).st.jrn = s.jrn ∧ (State.completionChange s x).st.recovery = s.recovery ∧
    (State.completionChange s x).st.supply = s.supply ∧
    (State.completionChange s x).st.owed = s.owed := by
  unfold State.completionChange
  dsimp only
  repeat' split
  all_goals simp

@[simp] theorem State.tryComplete_frame (s : State) (x : Job) :
    (State.tryComplete s x).1.pending = s.pending ∧ (State.tryComplete s x).1.sent = s.sent ∧
    (State.tryComplete s x).1.now = s.now ∧ (State.tryComplete s x).1.params = s.params ∧
    (State.tryComplete s x).1.heat = s.heat ∧ (State.tryComplete s x).1.writes = s.writes ∧
    (State.tryComplete s x).1.recovery = s.recovery ∧ (State.tryComplete s x).1.supply = s.supply ∧
    (State.tryComplete s x).1.owed = s.owed := by
  unfold State.tryComplete
  dsimp only
  repeat' split
  all_goals simp

@[simp] theorem State.enterCompleting_frame (s : State) (x : Nat) :
    (State.enterCompleting s x).pending = s.pending ∧ (State.enterCompleting s x).sent = s.sent ∧
    (State.enterCompleting s x).now = s.now ∧ (State.enterCompleting s x).ports = s.ports ∧
    (State.enterCompleting s x).params = s.params ∧ (State.enterCompleting s x).map = s.map ∧
    (State.enterCompleting s x).heat = s.heat ∧ (State.enterCompleting s x).writes = s.writes ∧
    (State.enterCompleting s x).pool = s.pool ∧ (State.enterCompleting s x).plan = s.plan ∧
    (State.enterCompleting s x).jrn = s.jrn ∧ (State.enterCompleting s x).recovery = s.recovery ∧
    (State.enterCompleting s x).supply = s.supply ∧
    (State.enterCompleting s x).owed = s.owed := by
  simp [State.enterCompleting]

@[simp] theorem State.withdrawWaiting_frame (s : State) :
    (State.withdrawWaiting s).pending = s.pending ∧ (State.withdrawWaiting s).sent = s.sent ∧
    (State.withdrawWaiting s).now = s.now ∧ (State.withdrawWaiting s).ports = s.ports ∧
    (State.withdrawWaiting s).params = s.params ∧ (State.withdrawWaiting s).heat = s.heat ∧
    (State.withdrawWaiting s).writes = s.writes ∧ (State.withdrawWaiting s).jrn = s.jrn ∧
    (State.withdrawWaiting s).recovery = s.recovery ∧ (State.withdrawWaiting s).supply = s.supply ∧
    (State.withdrawWaiting s).owed = s.owed := by
  simp [State.withdrawWaiting]

@[simp] theorem State.setMode_frame (s : State) (x : Mode) :
    (State.setMode s x).pending = s.pending ∧ (State.setMode s x).sent = s.sent ∧ (State.setMode s x).now = s.now ∧
    (State.setMode s x).ports = s.ports ∧ (State.setMode s x).params = s.params ∧ (State.setMode s x).map = s.map ∧
    (State.setMode s x).heat = s.heat ∧ (State.setMode s x).writes = s.writes ∧ (State.setMode s x).pool = s.pool ∧
    (State.setMode s x).plan = s.plan ∧ (State.setMode s x).work = s.work ∧ (State.setMode s x).jrn = s.jrn ∧
    (State.setMode s x).recovery = s.recovery ∧
    (State.setMode s x).owed = s.owed := by
  simp [State.setMode]

@[simp] theorem State.answerPower_frame (s : State) (x : ReplyCode) (y : ReplyBody) :
    (State.answerPower s x y).pending = s.pending ∧ (State.answerPower s x y).now = s.now ∧
    (State.answerPower s x y).params = s.params ∧ (State.answerPower s x y).map = s.map ∧
    (State.answerPower s x y).heat = s.heat ∧ (State.answerPower s x y).writes = s.writes ∧
    (State.answerPower s x y).pool = s.pool ∧ (State.answerPower s x y).plan = s.plan ∧
    (State.answerPower s x y).work = s.work ∧ (State.answerPower s x y).jrn = s.jrn ∧
    (State.answerPower s x y).recovery = s.recovery ∧ (State.answerPower s x y).supply = s.supply ∧
    (State.answerPower s x y).owed = s.owed := by
  simp [State.answerPower]

@[simp] theorem State.answerSyncs_frame (s : State) (x : Nat → Option (ReplyCode × ReplyBody)) :
    (State.answerSyncs s x).pending = s.pending ∧ (State.answerSyncs s x).now = s.now ∧
    (State.answerSyncs s x).params = s.params ∧ (State.answerSyncs s x).map = s.map ∧
    (State.answerSyncs s x).heat = s.heat ∧ (State.answerSyncs s x).writes = s.writes ∧
    (State.answerSyncs s x).pool = s.pool ∧ (State.answerSyncs s x).plan = s.plan ∧
    (State.answerSyncs s x).work = s.work ∧ (State.answerSyncs s x).jrn = s.jrn ∧
    (State.answerSyncs s x).recovery = s.recovery ∧ (State.answerSyncs s x).supply = s.supply ∧
    (State.answerSyncs s x).owed = s.owed := by
  simp [State.answerSyncs]

@[simp] theorem State.answerFormat_frame (s : State) (x : ReplyCode) (y : ReplyBody) :
    (State.answerFormat s x y).pending = s.pending ∧ (State.answerFormat s x y).now = s.now ∧
    (State.answerFormat s x y).params = s.params ∧ (State.answerFormat s x y).map = s.map ∧
    (State.answerFormat s x y).heat = s.heat ∧ (State.answerFormat s x y).writes = s.writes ∧
    (State.answerFormat s x y).pool = s.pool ∧ (State.answerFormat s x y).plan = s.plan ∧
    (State.answerFormat s x y).work = s.work ∧ (State.answerFormat s x y).jrn = s.jrn ∧
    (State.answerFormat s x y).recovery = s.recovery ∧ (State.answerFormat s x y).supply = s.supply ∧
    (State.answerFormat s x y).owed = s.owed := by
  simp [State.answerFormat]

@[simp] theorem State.abandonWalk_frame (s : State) :
    (State.abandonWalk s).pending = s.pending ∧ (State.abandonWalk s).sent = s.sent ∧
    (State.abandonWalk s).now = s.now ∧ (State.abandonWalk s).ports = s.ports ∧
    (State.abandonWalk s).params = s.params ∧ (State.abandonWalk s).map = s.map ∧
    (State.abandonWalk s).heat = s.heat ∧ (State.abandonWalk s).writes = s.writes ∧
    (State.abandonWalk s).pool = s.pool ∧ (State.abandonWalk s).work = s.work ∧ (State.abandonWalk s).jrn = s.jrn ∧
    (State.abandonWalk s).recovery = s.recovery ∧ (State.abandonWalk s).supply = s.supply ∧
    (State.abandonWalk s).owed = s.owed := by
  simp [State.abandonWalk]

@[simp] theorem State.enterSleep_frame (s : State) (x : SleepMode) :
    (State.enterSleep s x).pending = s.pending ∧ (State.enterSleep s x).now = s.now ∧
    (State.enterSleep s x).params = s.params ∧ (State.enterSleep s x).map = s.map ∧
    (State.enterSleep s x).heat = s.heat ∧ (State.enterSleep s x).writes = s.writes ∧
    (State.enterSleep s x).pool = s.pool ∧ (State.enterSleep s x).work = s.work ∧
    (State.enterSleep s x).jrn = s.jrn ∧ (State.enterSleep s x).recovery = s.recovery ∧
    (State.enterSleep s x).owed = s.owed := by
  simp [State.enterSleep]

@[simp] theorem State.abortQuiesce_frame (s : State) (x : ReplyCode) :
    (State.abortQuiesce s x).pending = s.pending ∧ (State.abortQuiesce s x).now = s.now ∧
    (State.abortQuiesce s x).params = s.params ∧ (State.abortQuiesce s x).map = s.map ∧
    (State.abortQuiesce s x).heat = s.heat ∧ (State.abortQuiesce s x).writes = s.writes ∧
    (State.abortQuiesce s x).pool = s.pool ∧ (State.abortQuiesce s x).plan = s.plan ∧
    (State.abortQuiesce s x).work = s.work ∧ (State.abortQuiesce s x).jrn = s.jrn ∧
    (State.abortQuiesce s x).recovery = s.recovery ∧
    (State.abortQuiesce s x).owed = s.owed := by
  unfold State.abortQuiesce
  repeat' split
  all_goals simp

@[simp] theorem State.judgeQuiesce_frame (s : State) :
    (State.judgeQuiesce s).pending = s.pending ∧ (State.judgeQuiesce s).now = s.now ∧
    (State.judgeQuiesce s).params = s.params ∧ (State.judgeQuiesce s).map = s.map ∧
    (State.judgeQuiesce s).heat = s.heat ∧ (State.judgeQuiesce s).writes = s.writes ∧
    (State.judgeQuiesce s).pool = s.pool ∧ (State.judgeQuiesce s).recovery = s.recovery ∧
    (State.judgeQuiesce s).owed = s.owed := by
  unfold State.judgeQuiesce
  dsimp only
  repeat' split
  all_goals simp

@[simp] theorem State.clampReserve_frame (s : State) :
    (State.clampReserve s).pending = s.pending ∧ (State.clampReserve s).sent = s.sent ∧
    (State.clampReserve s).now = s.now ∧ (State.clampReserve s).ports = s.ports ∧
    (State.clampReserve s).map = s.map ∧ (State.clampReserve s).heat = s.heat ∧
    (State.clampReserve s).writes = s.writes ∧ (State.clampReserve s).pool = s.pool ∧
    (State.clampReserve s).plan = s.plan ∧ (State.clampReserve s).work = s.work ∧
    (State.clampReserve s).jrn = s.jrn ∧ (State.clampReserve s).recovery = s.recovery ∧
    (State.clampReserve s).supply = s.supply ∧
    (State.clampReserve s).owed = s.owed := by
  simp [State.clampReserve]

@[simp] theorem State.enterServing_frame (s : State) :
    (State.enterServing s).pending = s.pending ∧ (State.enterServing s).sent = s.sent ∧
    (State.enterServing s).now = s.now ∧ (State.enterServing s).map = s.map ∧ (State.enterServing s).heat = s.heat ∧
    (State.enterServing s).writes = s.writes ∧ (State.enterServing s).pool = s.pool ∧
    (State.enterServing s).plan = s.plan ∧ (State.enterServing s).work = s.work ∧
    (State.enterServing s).jrn = s.jrn ∧ (State.enterServing s).supply = s.supply ∧
    (State.enterServing s).owed = s.owed := by
  simp [State.enterServing]

@[simp] theorem State.judgeOwed_frame (s : State) :
    (State.judgeOwed s).pending = s.pending ∧ (State.judgeOwed s).sent = s.sent ∧
    (State.judgeOwed s).now = s.now ∧ (State.judgeOwed s).ports = s.ports ∧
    (State.judgeOwed s).params = s.params ∧ (State.judgeOwed s).map = s.map ∧
    (State.judgeOwed s).heat = s.heat ∧ (State.judgeOwed s).writes = s.writes ∧
    (State.judgeOwed s).pool = s.pool ∧ (State.judgeOwed s).plan = s.plan ∧ (State.judgeOwed s).work = s.work ∧
    (State.judgeOwed s).jrn = s.jrn ∧ (State.judgeOwed s).recovery = s.recovery ∧
    (State.judgeOwed s).supply = s.supply := by
  unfold State.judgeOwed
  split <;> simp

/-- What the judgement leaves owed still holds. -/
theorem State.judgeOwed_holds (s : State) : s.judgeOwed.owedHolds = true := by
  unfold State.judgeOwed
  split
  · assumption
  · rfl

@[simp] theorem State.settle_frame (s : State) :
    (State.settle s).pending = s.pending ∧ (State.settle s).now = s.now ∧ (State.settle s).params = s.params ∧
    (State.settle s).map = s.map ∧ (State.settle s).heat = s.heat ∧ (State.settle s).writes = s.writes ∧
    (State.settle s).pool = s.pool ∧ (State.settle s).recovery = s.recovery := by
  unfold State.settle
  split <;> simp

@[simp] theorem State.startWarning_frame (s : State) :
    (State.startWarning s).pending = s.pending ∧ (State.startWarning s).sent = s.sent ∧
    (State.startWarning s).now = s.now ∧ (State.startWarning s).params = s.params ∧
    (State.startWarning s).heat = s.heat ∧ (State.startWarning s).writes = s.writes ∧
    (State.startWarning s).recovery = s.recovery ∧
    (State.startWarning s).owed = s.owed := by
  unfold State.startWarning
  dsimp only
  split <;> simp

@[simp] theorem State.judgeFilter_frame (s : State) :
    (State.judgeFilter s).pending = s.pending ∧ (State.judgeFilter s).sent = s.sent ∧
    (State.judgeFilter s).now = s.now ∧ (State.judgeFilter s).ports = s.ports ∧
    (State.judgeFilter s).params = s.params ∧ (State.judgeFilter s).map = s.map ∧
    (State.judgeFilter s).heat = s.heat ∧ (State.judgeFilter s).writes = s.writes ∧
    (State.judgeFilter s).pool = s.pool ∧ (State.judgeFilter s).plan = s.plan ∧
    (State.judgeFilter s).work = s.work ∧ (State.judgeFilter s).jrn = s.jrn ∧
    (State.judgeFilter s).recovery = s.recovery ∧
    (State.judgeFilter s).owed = s.owed := by
  simp [State.judgeFilter]

@[simp] theorem State.judgeWarning_frame (s : State) :
    (State.judgeWarning s).pending = s.pending ∧ (State.judgeWarning s).sent = s.sent ∧
    (State.judgeWarning s).now = s.now ∧ (State.judgeWarning s).params = s.params ∧
    (State.judgeWarning s).heat = s.heat ∧ (State.judgeWarning s).writes = s.writes ∧
    (State.judgeWarning s).recovery = s.recovery ∧
    (State.judgeWarning s).owed = s.owed := by
  unfold State.judgeWarning
  repeat' split
  all_goals simp

@[simp] theorem State.clearWarning_frame (s : State) :
    (State.clearWarning s).pending = s.pending ∧ (State.clearWarning s).sent = s.sent ∧
    (State.clearWarning s).now = s.now ∧ (State.clearWarning s).params = s.params ∧
    (State.clearWarning s).map = s.map ∧ (State.clearWarning s).heat = s.heat ∧
    (State.clearWarning s).writes = s.writes ∧ (State.clearWarning s).pool = s.pool ∧
    (State.clearWarning s).plan = s.plan ∧ (State.clearWarning s).work = s.work ∧
    (State.clearWarning s).jrn = s.jrn ∧ (State.clearWarning s).recovery = s.recovery ∧
    (State.clearWarning s).owed = s.owed := by
  simp [State.clearWarning]

@[simp] theorem State.correctWords_frame (s : State) (x : Nat) :
    (State.correctWords s x).pending = s.pending ∧ (State.correctWords s x).sent = s.sent ∧
    (State.correctWords s x).now = s.now ∧ (State.correctWords s x).ports = s.ports ∧
    (State.correctWords s x).params = s.params ∧ (State.correctWords s x).map = s.map ∧
    (State.correctWords s x).heat = s.heat ∧ (State.correctWords s x).writes = s.writes ∧
    (State.correctWords s x).pool = s.pool ∧ (State.correctWords s x).plan = s.plan ∧
    (State.correctWords s x).work = s.work ∧ (State.correctWords s x).jrn = s.jrn ∧
    (State.correctWords s x).recovery = s.recovery ∧
    (State.correctWords s x).owed = s.owed := by
  simp [State.correctWords]

@[simp] theorem State.setPhase_frame (s : State) (x : Phase) :
    (State.setPhase s x).pending = s.pending ∧ (State.setPhase s x).sent = s.sent ∧
    (State.setPhase s x).now = s.now ∧ (State.setPhase s x).ports = s.ports ∧
    (State.setPhase s x).params = s.params ∧ (State.setPhase s x).map = s.map ∧ (State.setPhase s x).heat = s.heat ∧
    (State.setPhase s x).writes = s.writes ∧ (State.setPhase s x).pool = s.pool ∧
    (State.setPhase s x).plan = s.plan ∧ (State.setPhase s x).work = s.work ∧ (State.setPhase s x).jrn = s.jrn ∧
    (State.setPhase s x).supply = s.supply ∧
    (State.setPhase s x).owed = s.owed := by
  simp [State.setPhase]

@[simp] theorem State.makeRead_frame (s : State) (x : Reading) (y : Reading → Phase) :
    (State.makeRead s x y).pending = s.pending ∧ (State.makeRead s x y).sent = s.sent ∧
    (State.makeRead s x y).now = s.now ∧ (State.makeRead s x y).params = s.params ∧
    (State.makeRead s x y).map = s.map ∧ (State.makeRead s x y).heat = s.heat ∧
    (State.makeRead s x y).writes = s.writes ∧ (State.makeRead s x y).pool = s.pool ∧
    (State.makeRead s x y).plan = s.plan ∧ (State.makeRead s x y).jrn = s.jrn ∧
    (State.makeRead s x y).supply = s.supply ∧
    (State.makeRead s x y).owed = s.owed := by
  unfold State.makeRead
  split
  · simp
  · generalize e : State.makePageOrder s _ _ _ _ = o
    cases o with
    | none => simp
    | some v => obtain ⟨t, id⟩ := v; simp [State.makePageOrder_frame e]

@[simp] theorem State.recoveryAdvance_frame (s : State) :
    (State.recoveryAdvance s).pending = s.pending ∧ (State.recoveryAdvance s).sent = s.sent ∧
    (State.recoveryAdvance s).now = s.now ∧ (State.recoveryAdvance s).params = s.params ∧
    (State.recoveryAdvance s).map = s.map ∧ (State.recoveryAdvance s).heat = s.heat ∧
    (State.recoveryAdvance s).writes = s.writes ∧ (State.recoveryAdvance s).pool = s.pool ∧
    (State.recoveryAdvance s).plan = s.plan ∧ (State.recoveryAdvance s).jrn = s.jrn ∧
    (State.recoveryAdvance s).supply = s.supply ∧
    (State.recoveryAdvance s).owed = s.owed := by
  unfold State.recoveryAdvance
  split
  · simp
  · simp
  all_goals
    split
    · simp
    · split
      · simp
      · split
        · simp
        · rename_i e
          simp [State.makePageOrder_frame e]

@[simp] theorem State.advance_frame (s : State) :
    (State.advance s).pending = s.pending ∧ (State.advance s).sent = s.sent ∧ (State.advance s).now = s.now ∧
    (State.advance s).params = s.params ∧ (State.advance s).map = s.map ∧ (State.advance s).heat = s.heat ∧
    (State.advance s).writes = s.writes ∧ (State.advance s).pool = s.pool ∧ (State.advance s).plan = s.plan ∧
    (State.advance s).supply = s.supply ∧
    (State.advance s).owed = s.owed := by
  simp [State.advance]

@[simp] theorem State.loseMap_frame (s : State) :
    (State.loseMap s).pending = s.pending ∧ (State.loseMap s).sent = s.sent ∧ (State.loseMap s).now = s.now ∧
    (State.loseMap s).ports = s.ports ∧ (State.loseMap s).params = s.params ∧ (State.loseMap s).heat = s.heat ∧
    (State.loseMap s).writes = s.writes ∧ (State.loseMap s).work = s.work ∧
    (State.loseMap s).recovery = s.recovery ∧ (State.loseMap s).supply = s.supply ∧
    (State.loseMap s).owed = none := by
  simp [State.loseMap]

theorem State.loseMap_cold (s : State) :
    (State.loseMap s).map = PlacementMap.reset ∧ (State.loseMap s).pool = SlotPool.reset ∧
    (State.loseMap s).plan = Planner.reset ∧ (State.loseMap s).jrn = Journal.reset := ⟨rfl, rfl, rfl, rfl⟩

@[simp] theorem State.keepSizes_frame (s before : State) :
    (State.keepSizes s before).pending = s.pending ∧ (State.keepSizes s before).sent = s.sent ∧
    (State.keepSizes s before).now = s.now ∧ (State.keepSizes s before).ports = s.ports ∧
    (State.keepSizes s before).params = s.params ∧ (State.keepSizes s before).heat = s.heat ∧
    (State.keepSizes s before).writes = s.writes ∧ (State.keepSizes s before).pool = s.pool ∧
    (State.keepSizes s before).plan = s.plan ∧ (State.keepSizes s before).work = s.work ∧
    (State.keepSizes s before).jrn = s.jrn ∧ (State.keepSizes s before).recovery = s.recovery ∧
    (State.keepSizes s before).supply = s.supply ∧
    (State.keepSizes s before).owed = s.owed := by
  simp [State.keepSizes]

theorem State.keepSizes_map (s before : State) :
    (State.keepSizes s before).map =
      { s.map with slotCount := before.map.slotCount, diskGrains := before.map.diskGrains } := rfl

@[simp] theorem State.startHunt_frame (s : State) :
    (State.startHunt s).pending = s.pending ∧ (State.startHunt s).sent = s.sent ∧ (State.startHunt s).now = s.now ∧
    (State.startHunt s).params = s.params ∧ (State.startHunt s).map = s.map ∧ (State.startHunt s).heat = s.heat ∧
    (State.startHunt s).writes = s.writes ∧ (State.startHunt s).pool = s.pool ∧ (State.startHunt s).plan = s.plan ∧
    (State.startHunt s).jrn = s.jrn ∧ (State.startHunt s).supply = s.supply ∧
    (State.startHunt s).owed = s.owed := by
  simp [State.startHunt]

@[simp] theorem State.discardOrders_frame (s : State) :
    (State.discardOrders s).pending = s.pending ∧ (State.discardOrders s).sent = s.sent ∧
    (State.discardOrders s).now = s.now ∧ (State.discardOrders s).ports = s.ports ∧
    (State.discardOrders s).params = s.params ∧ (State.discardOrders s).map = s.map ∧
    (State.discardOrders s).heat = s.heat ∧ (State.discardOrders s).writes = s.writes ∧
    (State.discardOrders s).pool = s.pool ∧ (State.discardOrders s).plan = s.plan ∧
    (State.discardOrders s).jrn = s.jrn ∧ (State.discardOrders s).recovery = s.recovery ∧
    (State.discardOrders s).supply = s.supply ∧
    (State.discardOrders s).owed = s.owed := by
  simp [State.discardOrders]

@[simp] theorem State.replaySet_frame (s : State) (x : Nat) (y : ExtentBody) (z : Bool) :
    (State.replaySet s x y z).pending = s.pending ∧ (State.replaySet s x y z).sent = s.sent ∧
    (State.replaySet s x y z).now = s.now ∧ (State.replaySet s x y z).params = s.params ∧
    (State.replaySet s x y z).heat = s.heat ∧ (State.replaySet s x y z).writes = s.writes ∧
    (State.replaySet s x y z).pool = s.pool ∧ (State.replaySet s x y z).plan = s.plan ∧
    (State.replaySet s x y z).work = s.work ∧ (State.replaySet s x y z).jrn = s.jrn ∧
    (State.replaySet s x y z).recovery = s.recovery ∧ (State.replaySet s x y z).supply = s.supply ∧
    (State.replaySet s x y z).owed = s.owed := by
  unfold State.replaySet
  dsimp only
  repeat' split
  all_goals simp

theorem replayEntry_frame (psn : Nat) (x : State × Replay) (e : Entry) :
    (replayEntry psn x e).1.pending = x.1.pending ∧ (replayEntry psn x e).1.sent = x.1.sent ∧ (replayEntry psn x e).1.now = x.1.now ∧ (replayEntry psn x e).1.params = x.1.params ∧ (replayEntry psn x e).1.heat = x.1.heat ∧ (replayEntry psn x e).1.writes = x.1.writes ∧ (replayEntry psn x e).1.pool = x.1.pool ∧ (replayEntry psn x e).1.plan = x.1.plan ∧ (replayEntry psn x e).1.work = x.1.work ∧ (replayEntry psn x e).1.jrn = x.1.jrn ∧ (replayEntry psn x e).1.recovery = x.1.recovery ∧ (replayEntry psn x e).1.supply = x.1.supply ∧
    (replayEntry psn x e).1.owed = x.1.owed := by
  cases e <;> simp [replayEntry]

theorem replayEntries_frame (psn : Nat) (es : List Entry) (x : State × Replay) :
    (es.foldl (replayEntry psn) x).1.pending = x.1.pending ∧ (es.foldl (replayEntry psn) x).1.sent = x.1.sent ∧ (es.foldl (replayEntry psn) x).1.now = x.1.now ∧ (es.foldl (replayEntry psn) x).1.params = x.1.params ∧ (es.foldl (replayEntry psn) x).1.heat = x.1.heat ∧ (es.foldl (replayEntry psn) x).1.writes = x.1.writes ∧ (es.foldl (replayEntry psn) x).1.pool = x.1.pool ∧ (es.foldl (replayEntry psn) x).1.plan = x.1.plan ∧ (es.foldl (replayEntry psn) x).1.work = x.1.work ∧ (es.foldl (replayEntry psn) x).1.jrn = x.1.jrn ∧ (es.foldl (replayEntry psn) x).1.recovery = x.1.recovery ∧ (es.foldl (replayEntry psn) x).1.supply = x.1.supply ∧
    (es.foldl (replayEntry psn) x).1.owed = x.1.owed := by
  refine ⟨foldl_fixed (fun x => x.1.pending) _ (fun a b => by simp [replayEntry_frame]) es x, foldl_fixed (fun x => x.1.sent) _ (fun a b => by simp [replayEntry_frame]) es x, foldl_fixed (fun x => x.1.now) _ (fun a b => by simp [replayEntry_frame]) es x, foldl_fixed (fun x => x.1.params) _ (fun a b => by simp [replayEntry_frame]) es x, foldl_fixed (fun x => x.1.heat) _ (fun a b => by simp [replayEntry_frame]) es x, foldl_fixed (fun x => x.1.writes) _ (fun a b => by simp [replayEntry_frame]) es x, foldl_fixed (fun x => x.1.pool) _ (fun a b => by simp [replayEntry_frame]) es x, foldl_fixed (fun x => x.1.plan) _ (fun a b => by simp [replayEntry_frame]) es x, foldl_fixed (fun x => x.1.work) _ (fun a b => by simp [replayEntry_frame]) es x, foldl_fixed (fun x => x.1.jrn) _ (fun a b => by simp [replayEntry_frame]) es x, foldl_fixed (fun x => x.1.recovery) _ (fun a b => by simp [replayEntry_frame]) es x, foldl_fixed (fun x => x.1.supply) _ (fun a b => by simp [replayEntry_frame]) es x,
    foldl_fixed (fun x => x.1.owed) _ (fun a b => by simp [replayEntry_frame]) es x⟩

@[simp] theorem State.endReplay_frame (s : State) (x : Replay) (y : Bool) :
    (State.endReplay s x y).pending = s.pending ∧ (State.endReplay s x y).sent = s.sent ∧
    (State.endReplay s x y).now = s.now ∧ (State.endReplay s x y).writes = s.writes ∧
    (State.endReplay s x y).supply = s.supply ∧
    (State.endReplay s x y).owed = s.owed := by
  unfold State.endReplay
  repeat' split
  all_goals simp

@[simp] theorem State.startReplay_frame (s : State) (x : Hunt) (y : PageHeader) :
    (State.startReplay s x y).pending = s.pending ∧ (State.startReplay s x y).sent = s.sent ∧
    (State.startReplay s x y).now = s.now ∧ (State.startReplay s x y).params = s.params ∧
    (State.startReplay s x y).map = s.map ∧ (State.startReplay s x y).heat = s.heat ∧
    (State.startReplay s x y).writes = s.writes ∧ (State.startReplay s x y).pool = s.pool ∧
    (State.startReplay s x y).plan = s.plan ∧ (State.startReplay s x y).jrn = s.jrn ∧
    (State.startReplay s x y).supply = s.supply ∧
    (State.startReplay s x y).owed = s.owed := by
  unfold State.startReplay
  dsimp only
  repeat' split
  all_goals simp

@[simp] theorem State.enterBlank_frame (s : State) :
    (State.enterBlank s).pending = s.pending ∧ (State.enterBlank s).sent = s.sent ∧
    (State.enterBlank s).now = s.now ∧ (State.enterBlank s).ports = s.ports ∧
    (State.enterBlank s).params = s.params ∧ (State.enterBlank s).heat = s.heat ∧
    (State.enterBlank s).writes = s.writes ∧ (State.enterBlank s).pool = s.pool ∧
    (State.enterBlank s).plan = s.plan ∧ (State.enterBlank s).work = s.work ∧ (State.enterBlank s).jrn = s.jrn ∧
    (State.enterBlank s).supply = s.supply ∧
    (State.enterBlank s).owed = s.owed := by
  simp [State.enterBlank]

@[simp] theorem State.huntNext_frame (s : State) (x : Hunt) :
    (State.huntNext s x).pending = s.pending ∧ (State.huntNext s x).sent = s.sent ∧
    (State.huntNext s x).now = s.now ∧ (State.huntNext s x).params = s.params ∧ (State.huntNext s x).heat = s.heat ∧
    (State.huntNext s x).writes = s.writes ∧ (State.huntNext s x).pool = s.pool ∧
    (State.huntNext s x).plan = s.plan ∧ (State.huntNext s x).jrn = s.jrn ∧
    (State.huntNext s x).supply = s.supply ∧
    (State.huntNext s x).owed = s.owed := by
  unfold State.huntNext
  repeat' split
  all_goals simp

@[simp] theorem State.huntStep_frame (s : State) (x : Hunt) (y : Option Page) :
    (State.huntStep s x y).pending = s.pending ∧ (State.huntStep s x y).sent = s.sent ∧
    (State.huntStep s x y).now = s.now ∧ (State.huntStep s x y).params = s.params ∧
    (State.huntStep s x y).heat = s.heat ∧ (State.huntStep s x y).writes = s.writes ∧
    (State.huntStep s x y).pool = s.pool ∧ (State.huntStep s x y).plan = s.plan ∧
    (State.huntStep s x y).jrn = s.jrn ∧ (State.huntStep s x y).supply = s.supply ∧
    (State.huntStep s x y).owed = s.owed := by
  unfold State.huntStep
  dsimp only
  repeat' split
  all_goals simp

@[simp] theorem State.replayStep_frame (s : State) (x : Replay) (y : Option Page) :
    (State.replayStep s x y).pending = s.pending ∧ (State.replayStep s x y).sent = s.sent ∧
    (State.replayStep s x y).now = s.now ∧ (State.replayStep s x y).writes = s.writes ∧
    (State.replayStep s x y).supply = s.supply ∧
    (State.replayStep s x y).owed = s.owed := by
  unfold State.replayStep
  cases y with
  | none => simp
  | some p =>
    dsimp only
    split
    · split
      · simp [replayEntries_frame]
      · simp [replayEntries_frame]
    · simp

@[simp] theorem State.pageRead_frame (s : State) (x : Option Page) :
    (State.pageRead s x).pending = s.pending ∧ (State.pageRead s x).sent = s.sent ∧
    (State.pageRead s x).now = s.now ∧ (State.pageRead s x).writes = s.writes ∧
    (State.pageRead s x).supply = s.supply ∧
    (State.pageRead s x).owed = s.owed := by
  unfold State.pageRead
  repeat' split
  all_goals simp

@[simp] theorem State.setReading_frame (s : State) (x : Reading) :
    (State.setReading s x).pending = s.pending ∧ (State.setReading s x).sent = s.sent ∧
    (State.setReading s x).now = s.now ∧ (State.setReading s x).ports = s.ports ∧
    (State.setReading s x).params = s.params ∧ (State.setReading s x).map = s.map ∧
    (State.setReading s x).heat = s.heat ∧ (State.setReading s x).writes = s.writes ∧
    (State.setReading s x).pool = s.pool ∧ (State.setReading s x).plan = s.plan ∧
    (State.setReading s x).work = s.work ∧ (State.setReading s x).jrn = s.jrn ∧
    (State.setReading s x).supply = s.supply ∧
    (State.setReading s x).owed = s.owed := by
  unfold State.setReading
  repeat' split
  all_goals simp

@[simp] theorem State.finishRead_frame (s : State) (x : Order) (y : FinishOutcome) (z : Option (List Byte)) :
    (State.finishRead s x y z).pending = s.pending ∧ (State.finishRead s x y z).sent = s.sent ∧
    (State.finishRead s x y z).now = s.now ∧ (State.finishRead s x y z).writes = s.writes ∧
    (State.finishRead s x y z).supply = s.supply ∧
    (State.finishRead s x y z).owed = s.owed := by
  unfold State.finishRead
  repeat' split
  all_goals simp

@[simp] theorem State.finishFormat_frame (s : State) (x : Order) (y : FormatWrite) (z : FinishOutcome) :
    (State.finishFormat s x y z).pending = s.pending ∧ (State.finishFormat s x y z).now = s.now ∧
    (State.finishFormat s x y z).params = s.params ∧ (State.finishFormat s x y z).heat = s.heat ∧
    (State.finishFormat s x y z).writes = s.writes ∧ (State.finishFormat s x y z).supply = s.supply := by
  unfold State.finishFormat
  repeat' split
  all_goals simp

@[simp] theorem State.completePass_frame (s : State) :
    (State.completePass s).pending = s.pending ∧ (State.completePass s).sent = s.sent ∧
    (State.completePass s).now = s.now ∧ (State.completePass s).map = s.map ∧ (State.completePass s).heat = s.heat ∧
    (State.completePass s).writes = s.writes ∧ (State.completePass s).pool = s.pool ∧
    (State.completePass s).plan = s.plan ∧ (State.completePass s).work = s.work ∧
    (State.completePass s).owed = s.owed := by
  unfold State.completePass
  dsimp only
  repeat' split
  all_goals simp

@[simp] theorem State.handDurable_frame (s : State) :
    (State.handDurable s).pending = s.pending ∧ (State.handDurable s).now = s.now ∧
    (State.handDurable s).map = s.map ∧ (State.handDurable s).heat = s.heat ∧
    (State.handDurable s).writes = s.writes ∧ (State.handDurable s).plan = s.plan ∧
    (State.handDurable s).work = s.work ∧
    (State.handDurable s).owed = s.owed := by
  simp [State.handDurable]

@[simp] theorem State.judgeRetired_frame (s x : State) :
    (State.judgeRetired s x).pending = s.pending ∧ (State.judgeRetired s x).sent = s.sent ∧
    (State.judgeRetired s x).now = s.now ∧ (State.judgeRetired s x).params = s.params ∧
    (State.judgeRetired s x).map = s.map ∧ (State.judgeRetired s x).heat = s.heat ∧
    (State.judgeRetired s x).writes = s.writes ∧ (State.judgeRetired s x).pool = s.pool ∧
    (State.judgeRetired s x).work = s.work ∧ (State.judgeRetired s x).jrn = s.jrn ∧
    (State.judgeRetired s x).recovery = s.recovery ∧ (State.judgeRetired s x).supply = s.supply ∧
    (State.judgeRetired s x).owed = s.owed := by
  unfold State.judgeRetired
  split <;> simp

@[simp] theorem State.enterFault_frame (s : State) (x : Page) :
    (State.enterFault s x).pending = s.pending ∧ (State.enterFault s x).now = s.now ∧
    (State.enterFault s x).params = s.params ∧ (State.enterFault s x).map = s.map ∧
    (State.enterFault s x).heat = s.heat ∧ (State.enterFault s x).writes = s.writes ∧
    (State.enterFault s x).pool = s.pool ∧ (State.enterFault s x).plan = s.plan ∧
    (State.enterFault s x).work = s.work ∧ (State.enterFault s x).recovery = s.recovery ∧
    (State.enterFault s x).owed = s.owed := by
  simp [State.enterFault]

@[simp] theorem State.releaseIssued_frame (s : State) (x : Nat) :
    (State.releaseIssued s x).pending = s.pending ∧ (State.releaseIssued s x).sent = s.sent ∧
    (State.releaseIssued s x).now = s.now ∧ (State.releaseIssued s x).ports = s.ports ∧
    (State.releaseIssued s x).params = s.params ∧ (State.releaseIssued s x).map = s.map ∧
    (State.releaseIssued s x).heat = s.heat ∧ (State.releaseIssued s x).writes = s.writes ∧
    (State.releaseIssued s x).pool = s.pool ∧ (State.releaseIssued s x).plan = s.plan ∧
    (State.releaseIssued s x).work = s.work ∧ (State.releaseIssued s x).recovery = s.recovery ∧
    (State.releaseIssued s x).supply = s.supply ∧
    (State.releaseIssued s x).owed = s.owed := by
  simp [State.releaseIssued]

@[simp] theorem State.finishWrite_frame (s : State) (x : Order) (y : Page) (z : FinishOutcome) :
    (State.finishWrite s x y z).pending = s.pending ∧ (State.finishWrite s x y z).now = s.now ∧
    (State.finishWrite s x y z).map = s.map ∧ (State.finishWrite s x y z).heat = s.heat ∧
    (State.finishWrite s x y z).writes = s.writes ∧
    (State.finishWrite s x y z).owed = s.owed := by
  unfold State.finishWrite
  dsimp only
  repeat' split
  all_goals simp

@[simp] theorem State.coldStart_pending (s : State) (x : ResetCause) (y z : Nat) (u : Rstn) :
    (s.coldStart x y z u).pending = s.pending := rfl
@[simp] theorem State.endHibernate_pending (s : State) (x : ResetCause) (y : Rstn) : (s.endHibernate x y).pending = s.pending := rfl
@[simp] theorem State.endHeld_pending (s : State) (x : Nat) : (s.endHeld x).pending = s.pending := by
  unfold State.endHeld; split <;> rfl
@[simp] theorem State.coldStart_sent (s : State) (x : ResetCause) (y z : Nat) (u : Rstn) :
    (s.coldStart x y z u).sent = s.sent := rfl
@[simp] theorem State.endHibernate_sent (s : State) (x : ResetCause) (y : Rstn) : (s.endHibernate x y).sent = s.sent := rfl
@[simp] theorem State.endHeld_sent (s : State) (x : Nat) : (s.endHeld x).sent = s.sent := by
  unfold State.endHeld; split <;> rfl
@[simp] theorem State.coldStart_now (s : State) (x : ResetCause) (y z : Nat) (u : Rstn) :
    (s.coldStart x y z u).now = s.now := rfl
@[simp] theorem State.endHibernate_now (s : State) (x : ResetCause) (y : Rstn) : (s.endHibernate x y).now = s.now := rfl
@[simp] theorem State.endHeld_now (s : State) (x : Nat) : (s.endHeld x).now = s.now := by
  unfold State.endHeld; split <;> rfl


@[simp] theorem State.wakeRetain_frame (s : State) :
    (State.wakeRetain s).pending = s.pending ∧ (State.wakeRetain s).sent = s.sent ∧
    (State.wakeRetain s).now = s.now ∧ (State.wakeRetain s).ports = s.ports ∧
    (State.wakeRetain s).params = s.params ∧ (State.wakeRetain s).map = s.map ∧ (State.wakeRetain s).heat = s.heat ∧
    (State.wakeRetain s).writes = s.writes ∧ (State.wakeRetain s).pool = s.pool ∧
    (State.wakeRetain s).work = s.work ∧ (State.wakeRetain s).jrn = s.jrn ∧
    (State.wakeRetain s).recovery = s.recovery ∧
    (State.wakeRetain s).owed = s.owed := by
  simp [State.wakeRetain]

@[simp] theorem State.discardWrites_frame (s : State) :
    (State.discardWrites s).pending = s.pending ∧ (State.discardWrites s).sent = s.sent ∧
    (State.discardWrites s).now = s.now ∧ (State.discardWrites s).ports = s.ports ∧
    (State.discardWrites s).params = s.params ∧ (State.discardWrites s).map = s.map ∧
    (State.discardWrites s).heat = s.heat ∧ (State.discardWrites s).pool = s.pool ∧
    (State.discardWrites s).plan = s.plan ∧ (State.discardWrites s).work = s.work ∧
    (State.discardWrites s).jrn = s.jrn ∧ (State.discardWrites s).recovery = s.recovery ∧
    (State.discardWrites s).supply = s.supply ∧
    (State.discardWrites s).owed = s.owed := by
  simp [State.discardWrites]

@[simp] theorem State.rollBackJobs_frame (s : State) :
    (State.rollBackJobs s).pending = s.pending ∧ (State.rollBackJobs s).sent = s.sent ∧
    (State.rollBackJobs s).now = s.now ∧ (State.rollBackJobs s).ports = s.ports ∧
    (State.rollBackJobs s).params = s.params ∧ (State.rollBackJobs s).heat = s.heat ∧
    (State.rollBackJobs s).writes = s.writes ∧ (State.rollBackJobs s).jrn = s.jrn ∧
    (State.rollBackJobs s).recovery = s.recovery ∧ (State.rollBackJobs s).supply = s.supply ∧
    (State.rollBackJobs s).owed = s.owed := by
  simp [State.rollBackJobs]

@[simp] theorem State.warmCommon_frame (s : State) (x : ResetCause) :
    (State.warmCommon s x).pending = s.pending ∧ (State.warmCommon s x).sent = s.sent ∧
    (State.warmCommon s x).now = s.now ∧ (State.warmCommon s x).map = s.map ∧
    (State.warmCommon s x).writes = s.writes ∧ (State.warmCommon s x).pool = s.pool ∧
    (State.warmCommon s x).plan = s.plan ∧ (State.warmCommon s x).jrn = s.jrn ∧
    (State.warmCommon s x).recovery = s.recovery ∧
    (State.warmCommon s x).owed = s.owed := by
  simp [State.warmCommon]

@[simp] theorem State.resumeDone_frame (s : State) :
    (State.resumeDone s).pending = s.pending ∧ (State.resumeDone s).sent = s.sent ∧
    (State.resumeDone s).now = s.now ∧ (State.resumeDone s).map = s.map ∧ (State.resumeDone s).heat = s.heat ∧
    (State.resumeDone s).writes = s.writes ∧ (State.resumeDone s).pool = s.pool ∧
    (State.resumeDone s).plan = s.plan ∧ (State.resumeDone s).work = s.work ∧ (State.resumeDone s).jrn = s.jrn ∧
    (State.resumeDone s).supply = s.supply ∧
    (State.resumeDone s).owed = s.owed := by
  unfold State.resumeDone
  repeat' split
  all_goals simp

@[simp] theorem State.warmServing_frame (s : State) :
    (State.warmServing s).pending = s.pending ∧ (State.warmServing s).sent = s.sent ∧
    (State.warmServing s).now = s.now ∧ (State.warmServing s).heat = s.heat ∧
    (State.warmServing s).supply = s.supply ∧
    (State.warmServing s).owed = none := by
  simp [State.warmServing]

@[simp] theorem State.warmHunt_frame (s : State) :
    (State.warmHunt s).pending = s.pending ∧ (State.warmHunt s).sent = s.sent ∧ (State.warmHunt s).now = s.now ∧
    (State.warmHunt s).params = s.params ∧ (State.warmHunt s).heat = s.heat ∧ (State.warmHunt s).writes = s.writes ∧
    (State.warmHunt s).supply = s.supply ∧
    (State.warmHunt s).owed = none := by
  simp [State.warmHunt]

@[simp] theorem State.warmStart_frame (s : State) (x : ResetCause) :
    (State.warmStart s x).pending = s.pending ∧ (State.warmStart s x).sent = s.sent ∧
    (State.warmStart s x).now = s.now := by
  unfold State.warmStart
  repeat' split
  all_goals simp

@[simp] theorem State.refuseDeferred_frame (s : State) :
    (State.refuseDeferred s).pending = s.pending ∧ (State.refuseDeferred s).now = s.now ∧
    (State.refuseDeferred s).params = s.params ∧ (State.refuseDeferred s).map = s.map ∧
    (State.refuseDeferred s).heat = s.heat ∧ (State.refuseDeferred s).writes = s.writes ∧
    (State.refuseDeferred s).pool = s.pool ∧ (State.refuseDeferred s).plan = s.plan ∧
    (State.refuseDeferred s).work = s.work ∧ (State.refuseDeferred s).jrn = s.jrn ∧
    (State.refuseDeferred s).recovery = s.recovery ∧
    (State.refuseDeferred s).owed = s.owed := by
  simp [State.refuseDeferred]

@[simp] theorem State.mapLoss_frame (s : State) :
    (State.mapLoss s).pending = s.pending ∧ (State.mapLoss s).now = s.now ∧ (State.mapLoss s).params = s.params ∧
    (State.mapLoss s).heat = s.heat := by
  by_cases h : s.serving = true <;> simp [State.mapLoss, h]

@[simp] theorem State.beginSweep_frame (s : State) :
    (State.beginSweep s).pending = s.pending ∧ (State.beginSweep s).sent = s.sent ∧
    (State.beginSweep s).now = s.now ∧ (State.beginSweep s).ports = s.ports ∧
    (State.beginSweep s).params = s.params ∧ (State.beginSweep s).map.records = s.map.records ∧ (State.beginSweep s).heat = s.heat ∧
    (State.beginSweep s).writes = s.writes ∧ (State.beginSweep s).pool = s.pool ∧
    (State.beginSweep s).work = s.work ∧ (State.beginSweep s).jrn = s.jrn ∧
    (State.beginSweep s).recovery = s.recovery ∧ (State.beginSweep s).supply = s.supply ∧
    (State.beginSweep s).owed = s.owed := by
  unfold State.beginSweep
  repeat' split
  all_goals simp

@[simp] theorem State.epochTick_frame (s : State) :
    (State.epochTick s).pending = s.pending ∧ (State.epochTick s).sent = s.sent ∧ (State.epochTick s).now = s.now ∧
    (State.epochTick s).ports = s.ports ∧ (State.epochTick s).params = s.params ∧ (State.epochTick s).map.records = s.map.records ∧
    (State.epochTick s).writes = s.writes ∧ (State.epochTick s).pool = s.pool ∧ (State.epochTick s).work = s.work ∧
    (State.epochTick s).jrn = s.jrn ∧ (State.epochTick s).recovery = s.recovery ∧
    (State.epochTick s).supply = s.supply ∧
    (State.epochTick s).owed = s.owed := by
  unfold State.epochTick
  dsimp only
  repeat' split
  all_goals simp

@[simp] theorem State.accept_frame (s : State) (x : Link) (y : Frame) :
    (State.accept s x y).pending = s.pending ∧ (State.accept s x y).now = s.now ∧
    (State.accept s x y).params = s.params ∧ (State.accept s x y).map = s.map ∧ (State.accept s x y).heat = s.heat ∧
    (State.accept s x y).writes = s.writes ∧ (State.accept s x y).pool = s.pool ∧
    (State.accept s x y).plan = s.plan ∧ (State.accept s x y).work = s.work ∧ (State.accept s x y).jrn = s.jrn ∧
    (State.accept s x y).recovery = s.recovery ∧ (State.accept s x y).supply = s.supply ∧
    (State.accept s x y).owed = s.owed := by
  unfold State.accept
  dsimp only
  repeat' split
  all_goals simp

@[simp] theorem State.frameStart_frame (s : State) :
    (State.frameStart s).pending = s.pending ∧ (State.frameStart s).sent = s.sent ∧
    (State.frameStart s).now = s.now := by
  unfold State.frameStart
  repeat' split
  all_goals simp

@[simp] theorem State.arrive_frame (s : State) (x : Link) (y : Frame) :
    (State.arrive s x y).pending = s.pending ∧ (State.arrive s x y).now = s.now := by
  unfold State.arrive
  repeat' split
  all_goals simp

@[simp] theorem State.present_frame (s : State) (x : Link) (y : Frame) :
    (State.present s x y).pending = s.pending ∧ (State.present s x y).now = s.now := by
  unfold State.present
  repeat' split
  all_goals simp

@[simp] theorem State.answer_frame (s : State) (x : Link) (y : Accepted) (z : Answer) :
    (State.answer s x y z).pending = s.pending ∧ (State.answer s x y z).now = s.now ∧
    (State.answer s x y z).params = s.params ∧ (State.answer s x y z).map = s.map ∧
    (State.answer s x y z).heat = s.heat ∧ (State.answer s x y z).writes = s.writes ∧
    (State.answer s x y z).pool = s.pool ∧ (State.answer s x y z).plan = s.plan ∧
    (State.answer s x y z).work = s.work ∧ (State.answer s x y z).jrn = s.jrn ∧
    (State.answer s x y z).recovery = s.recovery ∧ (State.answer s x y z).supply = s.supply ∧
    (State.answer s x y z).owed = s.owed := by
  unfold State.answer
  repeat' split
  all_goals simp

@[simp] theorem State.refuse_frame (s : State) (x : ReplyCode) :
    (State.refuse s x).1.pending = s.pending ∧ (State.refuse s x).1.sent = s.sent ∧
    (State.refuse s x).1.now = s.now ∧ (State.refuse s x).1.ports = s.ports ∧
    (State.refuse s x).1.params = s.params ∧ (State.refuse s x).1.map = s.map ∧ (State.refuse s x).1.heat = s.heat ∧
    (State.refuse s x).1.writes = s.writes ∧ (State.refuse s x).1.pool = s.pool ∧
    (State.refuse s x).1.plan = s.plan ∧ (State.refuse s x).1.work = s.work ∧ (State.refuse s x).1.jrn = s.jrn ∧
    (State.refuse s x).1.recovery = s.recovery ∧ (State.refuse s x).1.supply = s.supply ∧
    (State.refuse s x).1.owed = s.owed := by
  simp [State.refuse]

@[simp] theorem State.makeChange_pending (s : State) (c : Change) (h : c.st.pending = s.pending) :
    (s.makeChange c).1.pending = s.pending := by
  unfold State.makeChange; (repeat' split) <;> simp [h]
@[simp] theorem State.makeChange_owed (s : State) (c : Change) (h : c.st.owed = s.owed) :
    (s.makeChange c).1.owed = s.owed := by
  unfold State.makeChange; (repeat' split) <;> simp [h]
@[simp] theorem State.makeChange_sent (s : State) (c : Change) (h : c.st.sent = s.sent) :
    (s.makeChange c).1.sent = s.sent := by
  unfold State.makeChange; (repeat' split) <;> simp [h]
@[simp] theorem State.makeChange_now (s : State) (c : Change) (h : c.st.now = s.now) :
    (s.makeChange c).1.now = s.now := by
  unfold State.makeChange; (repeat' split) <;> simp [h]
@[simp] theorem State.makeChange_params (s : State) (c : Change) (h : c.st.params = s.params) :
    (s.makeChange c).1.params = s.params := by
  unfold State.makeChange; (repeat' split) <;> simp [h]
@[simp] theorem State.makeChange_map (s : State) (c : Change) (h : c.st.map = s.map) :
    (s.makeChange c).1.map = s.map := by
  unfold State.makeChange; (repeat' split) <;> simp [h]
@[simp] theorem State.makeChange_heat (s : State) (c : Change) (h : c.st.heat = s.heat) :
    (s.makeChange c).1.heat = s.heat := by
  unfold State.makeChange; (repeat' split) <;> simp [h]
@[simp] theorem State.makeChange_writes (s : State) (c : Change) (h : c.st.writes = s.writes) :
    (s.makeChange c).1.writes = s.writes := by
  unfold State.makeChange; (repeat' split) <;> simp [h]
@[simp] theorem State.makeChange_pool (s : State) (c : Change) (h : c.st.pool = s.pool) :
    (s.makeChange c).1.pool = s.pool := by
  unfold State.makeChange; (repeat' split) <;> simp [h]
@[simp] theorem State.makeChange_plan (s : State) (c : Change) (h : c.st.plan = s.plan) :
    (s.makeChange c).1.plan = s.plan := by
  unfold State.makeChange; (repeat' split) <;> simp [h]
@[simp] theorem State.makeChange_recovery (s : State) (c : Change) (h : c.st.recovery = s.recovery) :
    (s.makeChange c).1.recovery = s.recovery := by
  unfold State.makeChange; (repeat' split) <;> simp [h]
@[simp] theorem State.makeChange_supply (s : State) (c : Change) (h : c.st.supply = s.supply) :
    (s.makeChange c).1.supply = s.supply := by
  unfold State.makeChange; (repeat' split) <;> simp [h]


@[simp] theorem State.coverGap_frame (s : State) (x : Nat × Nat) :
    (State.coverGap s x).pending = s.pending ∧ (State.coverGap s x).sent = s.sent ∧
    (State.coverGap s x).now = s.now ∧ (State.coverGap s x).ports = s.ports ∧
    (State.coverGap s x).params = s.params ∧ (State.coverGap s x).heat = s.heat ∧
    (State.coverGap s x).writes = s.writes ∧ (State.coverGap s x).pool = s.pool ∧
    (State.coverGap s x).plan = s.plan ∧ (State.coverGap s x).work = s.work ∧ (State.coverGap s x).jrn = s.jrn ∧
    (State.coverGap s x).recovery = s.recovery ∧ (State.coverGap s x).supply = s.supply ∧
    (State.coverGap s x).owed = s.owed := by
  unfold State.coverGap
  dsimp only
  repeat' split
  all_goals simp

@[simp] theorem State.coverGaps_frame (s : State) (x : Nat) (y : Nat) :
    (State.coverGaps s x y).pending = s.pending ∧ (State.coverGaps s x y).sent = s.sent ∧
    (State.coverGaps s x y).now = s.now ∧ (State.coverGaps s x y).ports = s.ports ∧
    (State.coverGaps s x y).params = s.params ∧ (State.coverGaps s x y).heat = s.heat ∧
    (State.coverGaps s x y).writes = s.writes ∧ (State.coverGaps s x y).pool = s.pool ∧
    (State.coverGaps s x y).plan = s.plan ∧ (State.coverGaps s x y).work = s.work ∧
    (State.coverGaps s x y).jrn = s.jrn ∧ (State.coverGaps s x y).recovery = s.recovery ∧
    (State.coverGaps s x y).supply = s.supply ∧
    (State.coverGaps s x y).owed = s.owed := by
  simp [State.coverGaps]

@[simp] theorem State.touchRange_frame (s : State) (x : Nat) (y : Nat) (z : Rec → Nat) :
    (State.touchRange s x y z).pending = s.pending ∧ (State.touchRange s x y z).sent = s.sent ∧
    (State.touchRange s x y z).now = s.now ∧ (State.touchRange s x y z).ports = s.ports ∧
    (State.touchRange s x y z).params = s.params ∧ (State.touchRange s x y z).heat = s.heat ∧
    (State.touchRange s x y z).writes = s.writes ∧ (State.touchRange s x y z).pool = s.pool ∧
    (State.touchRange s x y z).work = s.work ∧ (State.touchRange s x y z).jrn = s.jrn ∧
    (State.touchRange s x y z).recovery = s.recovery ∧ (State.touchRange s x y z).supply = s.supply ∧
    (State.touchRange s x y z).owed = s.owed := by
  simp [State.touchRange]

@[simp] theorem State.serveLocate_frame (s : State) (x : Nat) (y : Nat) :
    (State.serveLocate s x y).1.pending = s.pending ∧ (State.serveLocate s x y).1.sent = s.sent ∧
    (State.serveLocate s x y).1.now = s.now ∧ (State.serveLocate s x y).1.ports = s.ports ∧
    (State.serveLocate s x y).1.params = s.params ∧ (State.serveLocate s x y).1.writes = s.writes ∧
    (State.serveLocate s x y).1.pool = s.pool ∧ (State.serveLocate s x y).1.work = s.work ∧
    (State.serveLocate s x y).1.jrn = s.jrn ∧ (State.serveLocate s x y).1.recovery = s.recovery ∧
    (State.serveLocate s x y).1.owed = s.owed := by
  unfold State.serveLocate
  dsimp only
  repeat' split
  all_goals simp

@[simp] theorem State.copyListings_frame (s : State) (x : Nat) (y : Nat) :
    (State.copyListings s x y).pending = s.pending ∧ (State.copyListings s x y).sent = s.sent ∧
    (State.copyListings s x y).now = s.now ∧ (State.copyListings s x y).ports = s.ports ∧
    (State.copyListings s x y).params = s.params ∧ (State.copyListings s x y).map = s.map ∧
    (State.copyListings s x y).heat = s.heat ∧ (State.copyListings s x y).pool = s.pool ∧
    (State.copyListings s x y).plan = s.plan ∧ (State.copyListings s x y).work = s.work ∧
    (State.copyListings s x y).jrn = s.jrn ∧ (State.copyListings s x y).recovery = s.recovery ∧
    (State.copyListings s x y).supply = s.supply ∧
    (State.copyListings s x y).owed = s.owed := by
  simp [State.copyListings]

@[simp] theorem State.yieldOne_frame (x : AbsorbRun) (y : Bool) (s : State) (z : Rec) :
    (State.yieldOne x y s z).pending = s.pending ∧ (State.yieldOne x y s z).sent = s.sent ∧
    (State.yieldOne x y s z).now = s.now ∧ (State.yieldOne x y s z).ports = s.ports ∧
    (State.yieldOne x y s z).params = s.params ∧ (State.yieldOne x y s z).heat = s.heat ∧
    (State.yieldOne x y s z).pool = s.pool ∧ (State.yieldOne x y s z).work = s.work ∧
    (State.yieldOne x y s z).jrn = s.jrn ∧ (State.yieldOne x y s z).recovery = s.recovery ∧
    (State.yieldOne x y s z).supply = s.supply ∧
    (State.yieldOne x y s z).owed = s.owed := by
  unfold State.yieldOne
  repeat' split
  all_goals simp

@[simp] theorem State.yield_frame (s : State) (x : AbsorbRun) (y : Bool) :
    (State.yield s x y).pending = s.pending ∧ (State.yield s x y).sent = s.sent ∧ (State.yield s x y).now = s.now ∧
    (State.yield s x y).ports = s.ports ∧ (State.yield s x y).params = s.params ∧
    (State.yield s x y).heat = s.heat ∧ (State.yield s x y).pool = s.pool ∧ (State.yield s x y).work = s.work ∧
    (State.yield s x y).jrn = s.jrn ∧ (State.yield s x y).recovery = s.recovery ∧
    (State.yield s x y).supply = s.supply ∧
    (State.yield s x y).owed = s.owed := by
  simp [State.yield]

@[simp] theorem Change.makeUpper_frame (x : AbsorbRun) (c : Change) (y : Rec) :
    (Change.makeUpper x c y).st.pending = c.st.pending ∧ (Change.makeUpper x c y).st.sent = c.st.sent ∧
    (Change.makeUpper x c y).st.now = c.st.now ∧ (Change.makeUpper x c y).st.ports = c.st.ports ∧
    (Change.makeUpper x c y).st.params = c.st.params ∧ (Change.makeUpper x c y).st.heat = c.st.heat ∧
    (Change.makeUpper x c y).st.pool = c.st.pool ∧ (Change.makeUpper x c y).st.plan = c.st.plan ∧
    (Change.makeUpper x c y).st.work = c.st.work ∧ (Change.makeUpper x c y).st.jrn = c.st.jrn ∧
    (Change.makeUpper x c y).st.recovery = c.st.recovery ∧ (Change.makeUpper x c y).st.supply = c.st.supply ∧
    (Change.makeUpper x c y).st.owed = c.st.owed := by
  unfold Change.makeUpper
  repeat' split
  all_goals simp

@[simp] theorem Change.leaveRest_frame (x : AbsorbRun) (c : Change) (y : Rec) :
    (Change.leaveRest x c y).st.pending = c.st.pending ∧ (Change.leaveRest x c y).st.sent = c.st.sent ∧
    (Change.leaveRest x c y).st.now = c.st.now ∧ (Change.leaveRest x c y).st.ports = c.st.ports ∧
    (Change.leaveRest x c y).st.params = c.st.params ∧ (Change.leaveRest x c y).st.heat = c.st.heat ∧
    (Change.leaveRest x c y).st.pool = c.st.pool ∧ (Change.leaveRest x c y).st.plan = c.st.plan ∧
    (Change.leaveRest x c y).st.work = c.st.work ∧ (Change.leaveRest x c y).st.jrn = c.st.jrn ∧
    (Change.leaveRest x c y).st.recovery = c.st.recovery ∧ (Change.leaveRest x c y).st.supply = c.st.supply ∧
    (Change.leaveRest x c y).st.owed = c.st.owed := by
  unfold Change.leaveRest
  repeat' split
  all_goals simp

@[simp] theorem Change.absorb_frame (x : Bool) (c : Change) (y : AbsorbRun) :
    (Change.absorb x c y).st.pending = c.st.pending ∧ (Change.absorb x c y).st.sent = c.st.sent ∧
    (Change.absorb x c y).st.now = c.st.now ∧ (Change.absorb x c y).st.ports = c.st.ports ∧
    (Change.absorb x c y).st.params = c.st.params ∧ (Change.absorb x c y).st.heat = c.st.heat ∧
    (Change.absorb x c y).st.work = c.st.work ∧ (Change.absorb x c y).st.jrn = c.st.jrn ∧
    (Change.absorb x c y).st.recovery = c.st.recovery ∧ (Change.absorb x c y).st.supply = c.st.supply ∧
    (Change.absorb x c y).st.owed = c.st.owed := by
  unfold Change.absorb
  dsimp only
  repeat' split
  all_goals simp

@[simp] theorem Change.mark_frame (x : Nat) (y : Nat) (c : Change) (z : Rec) :
    (Change.mark x y c z).st.pending = c.st.pending ∧ (Change.mark x y c z).st.sent = c.st.sent ∧
    (Change.mark x y c z).st.now = c.st.now ∧ (Change.mark x y c z).st.ports = c.st.ports ∧
    (Change.mark x y c z).st.params = c.st.params ∧ (Change.mark x y c z).st.heat = c.st.heat ∧
    (Change.mark x y c z).st.writes = c.st.writes ∧ (Change.mark x y c z).st.pool = c.st.pool ∧
    (Change.mark x y c z).st.work = c.st.work ∧ (Change.mark x y c z).st.jrn = c.st.jrn ∧
    (Change.mark x y c z).st.recovery = c.st.recovery ∧ (Change.mark x y c z).st.supply = c.st.supply ∧
    (Change.mark x y c z).st.owed = c.st.owed := by
  unfold Change.mark
  dsimp only
  repeat' split
  all_goals simp

@[simp] theorem Change.route_frame (x : Nat) (y : Nat) (z : Bool) (c : Change) (u : WriteUnit) :
    (Change.route x y z c u).st.pending = c.st.pending ∧ (Change.route x y z c u).st.sent = c.st.sent ∧
    (Change.route x y z c u).st.now = c.st.now ∧ (Change.route x y z c u).st.ports = c.st.ports ∧
    (Change.route x y z c u).st.params = c.st.params ∧ (Change.route x y z c u).st.heat = c.st.heat ∧
    (Change.route x y z c u).st.work = c.st.work ∧ (Change.route x y z c u).st.jrn = c.st.jrn ∧
    (Change.route x y z c u).st.recovery = c.st.recovery ∧ (Change.route x y z c u).st.supply = c.st.supply ∧
    (Change.route x y z c u).st.owed = c.st.owed := by
  unfold Change.route
  repeat' split
  all_goals simp

@[simp] theorem State.dropWhole_frame (s : State) (x : List AbsorbRun) :
    (State.dropWhole s x).pending = s.pending ∧ (State.dropWhole s x).sent = s.sent ∧
    (State.dropWhole s x).now = s.now ∧ (State.dropWhole s x).ports = s.ports ∧
    (State.dropWhole s x).params = s.params ∧ (State.dropWhole s x).heat = s.heat ∧
    (State.dropWhole s x).pool = s.pool ∧ (State.dropWhole s x).work = s.work ∧ (State.dropWhole s x).jrn = s.jrn ∧
    (State.dropWhole s x).recovery = s.recovery ∧ (State.dropWhole s x).supply = s.supply ∧
    (State.dropWhole s x).owed = s.owed := by
  simp [State.dropWhole]

@[simp] theorem State.routeChange_frame (s : State) (x : Nat) (y : Nat) (z : List AbsorbRun) :
    (State.routeChange s x y z).st.pending = s.pending ∧ (State.routeChange s x y z).st.sent = s.sent ∧
    (State.routeChange s x y z).st.now = s.now ∧ (State.routeChange s x y z).st.ports = s.ports ∧
    (State.routeChange s x y z).st.params = s.params ∧ (State.routeChange s x y z).st.heat = s.heat ∧
    (State.routeChange s x y z).st.work = s.work ∧ (State.routeChange s x y z).st.jrn = s.jrn ∧
    (State.routeChange s x y z).st.recovery = s.recovery ∧ (State.routeChange s x y z).st.supply = s.supply ∧
    (State.routeChange s x y z).st.owed = s.owed := by
  unfold State.routeChange
  dsimp only
  repeat' split
  all_goals simp

@[simp] theorem State.flagJobs_frame (s : State) (x : List Job) :
    (State.flagJobs s x).pending = s.pending ∧ (State.flagJobs s x).sent = s.sent ∧
    (State.flagJobs s x).now = s.now ∧ (State.flagJobs s x).ports = s.ports ∧
    (State.flagJobs s x).params = s.params ∧ (State.flagJobs s x).map = s.map ∧ (State.flagJobs s x).heat = s.heat ∧
    (State.flagJobs s x).writes = s.writes ∧ (State.flagJobs s x).pool = s.pool ∧
    (State.flagJobs s x).plan = s.plan ∧ (State.flagJobs s x).jrn = s.jrn ∧
    (State.flagJobs s x).recovery = s.recovery ∧ (State.flagJobs s x).supply = s.supply ∧
    (State.flagJobs s x).owed = s.owed := by
  simp [State.flagJobs]

@[simp] theorem State.cancelJobs_frame (s : State) (x : List Job) :
    (State.cancelJobs s x).pending = s.pending ∧ (State.cancelJobs s x).sent = s.sent ∧
    (State.cancelJobs s x).now = s.now ∧ (State.cancelJobs s x).ports = s.ports ∧
    (State.cancelJobs s x).params = s.params ∧ (State.cancelJobs s x).heat = s.heat ∧
    (State.cancelJobs s x).writes = s.writes ∧ (State.cancelJobs s x).jrn = s.jrn ∧
    (State.cancelJobs s x).recovery = s.recovery ∧ (State.cancelJobs s x).supply = s.supply ∧
    (State.cancelJobs s x).owed = s.owed := by
  simp [State.cancelJobs]

@[simp] theorem State.enterWrite_frame (s : State) (x : Nat) (y : Nat) (z : Nat) (u : Nat) (v : List Nat) :
    (State.enterWrite s x y z u v).pending = s.pending ∧ (State.enterWrite s x y z u v).sent = s.sent ∧
    (State.enterWrite s x y z u v).now = s.now ∧ (State.enterWrite s x y z u v).ports = s.ports ∧
    (State.enterWrite s x y z u v).params = s.params ∧ (State.enterWrite s x y z u v).heat = s.heat ∧
    (State.enterWrite s x y z u v).pool = s.pool ∧ (State.enterWrite s x y z u v).plan = s.plan ∧
    (State.enterWrite s x y z u v).work = s.work ∧ (State.enterWrite s x y z u v).jrn = s.jrn ∧
    (State.enterWrite s x y z u v).recovery = s.recovery ∧ (State.enterWrite s x y z u v).supply = s.supply ∧
    (State.enterWrite s x y z u v).owed = s.owed := by
  simp [State.enterWrite]

@[simp] theorem State.finishOpen_frame (s : State) (x : Nat) (y : Nat) (z : Nat) (u : List Nat) (v : Nat) :
    (State.finishOpen s x y z u v).1.pending = s.pending ∧ (State.finishOpen s x y z u v).1.sent = s.sent ∧
    (State.finishOpen s x y z u v).1.now = s.now ∧ (State.finishOpen s x y z u v).1.ports = s.ports ∧
    (State.finishOpen s x y z u v).1.params = s.params ∧ (State.finishOpen s x y z u v).1.pool = s.pool ∧
    (State.finishOpen s x y z u v).1.work = s.work ∧ (State.finishOpen s x y z u v).1.jrn = s.jrn ∧
    (State.finishOpen s x y z u v).1.recovery = s.recovery ∧
    (State.finishOpen s x y z u v).1.supply = s.supply ∧
    (State.finishOpen s x y z u v).1.owed = s.owed := by
  unfold State.finishOpen
  dsimp only
  repeat' split
  all_goals simp

@[simp] theorem State.spinNeeded_frame (s : State) (x : SpinReason) :
    (State.spinNeeded s x).1.pending = s.pending ∧ (State.spinNeeded s x).1.sent = s.sent ∧
    (State.spinNeeded s x).1.now = s.now ∧ (State.spinNeeded s x).1.params = s.params ∧
    (State.spinNeeded s x).1.map = s.map ∧ (State.spinNeeded s x).1.heat = s.heat ∧
    (State.spinNeeded s x).1.writes = s.writes ∧ (State.spinNeeded s x).1.pool = s.pool ∧
    (State.spinNeeded s x).1.plan = s.plan ∧ (State.spinNeeded s x).1.work = s.work ∧
    (State.spinNeeded s x).1.jrn = s.jrn ∧ (State.spinNeeded s x).1.recovery = s.recovery ∧
    (State.spinNeeded s x).1.supply = s.supply ∧
    (State.spinNeeded s x).1.owed = s.owed := by
  simp [State.spinNeeded]

@[simp] theorem State.openRouted_frame (s : State) (x : Nat) (y : Nat) (z : Nat) :
    (State.openRouted s x y z).1.pending = s.pending ∧ (State.openRouted s x y z).1.sent = s.sent ∧
    (State.openRouted s x y z).1.now = s.now ∧ (State.openRouted s x y z).1.params = s.params ∧
    (State.openRouted s x y z).1.recovery = s.recovery ∧ (State.openRouted s x y z).1.supply = s.supply ∧
    (State.openRouted s x y z).1.owed = s.owed := by
  unfold State.openRouted
  simp only [State.refuse]
  repeat' split
  all_goals simp

@[simp] theorem State.serveWriteOpen_frame (s : State) (x : Nat) (y : Nat) :
    (State.serveWriteOpen s x y).1.pending = s.pending ∧ (State.serveWriteOpen s x y).1.sent = s.sent ∧
    (State.serveWriteOpen s x y).1.now = s.now ∧ (State.serveWriteOpen s x y).1.params = s.params ∧
    (State.serveWriteOpen s x y).1.recovery = s.recovery ∧
    (State.serveWriteOpen s x y).1.owed = s.owed := by
  unfold State.serveWriteOpen
  dsimp only
  repeat' split
  all_goals simp

@[simp] theorem State.closeChange_frame (s : State) (x : OpenWrite) (y : Bool) :
    (State.closeChange s x y).st.pending = s.pending ∧ (State.closeChange s x y).st.sent = s.sent ∧
    (State.closeChange s x y).st.now = s.now ∧ (State.closeChange s x y).st.ports = s.ports ∧
    (State.closeChange s x y).st.params = s.params ∧ (State.closeChange s x y).st.heat = s.heat ∧
    (State.closeChange s x y).st.work = s.work ∧ (State.closeChange s x y).st.jrn = s.jrn ∧
    (State.closeChange s x y).st.recovery = s.recovery ∧ (State.closeChange s x y).st.supply = s.supply ∧
    (State.closeChange s x y).st.owed = s.owed := by
  unfold State.closeChange
  repeat' split
  all_goals simp

@[simp] theorem State.lowerCounts_frame (s : State) (x : OpenWrite) :
    (State.lowerCounts s x).pending = s.pending ∧ (State.lowerCounts s x).sent = s.sent ∧
    (State.lowerCounts s x).now = s.now ∧ (State.lowerCounts s x).ports = s.ports ∧
    (State.lowerCounts s x).params = s.params ∧ (State.lowerCounts s x).heat = s.heat ∧
    (State.lowerCounts s x).writes = s.writes ∧ (State.lowerCounts s x).pool = s.pool ∧
    (State.lowerCounts s x).plan = s.plan ∧ (State.lowerCounts s x).work = s.work ∧
    (State.lowerCounts s x).jrn = s.jrn ∧ (State.lowerCounts s x).recovery = s.recovery ∧
    (State.lowerCounts s x).supply = s.supply ∧
    (State.lowerCounts s x).owed = s.owed := by
  simp [State.lowerCounts]

@[simp] theorem State.releaseAtClose_frame (x : OpenWrite) (y : Bool) (s : State) (z : Nat) :
    (State.releaseAtClose x y s z).pending = s.pending ∧ (State.releaseAtClose x y s z).sent = s.sent ∧
    (State.releaseAtClose x y s z).now = s.now ∧ (State.releaseAtClose x y s z).params = s.params ∧
    (State.releaseAtClose x y s z).heat = s.heat ∧ (State.releaseAtClose x y s z).recovery = s.recovery ∧
    (State.releaseAtClose x y s z).supply = s.supply ∧
    (State.releaseAtClose x y s z).owed = s.owed := by
  unfold State.releaseAtClose
  dsimp only
  repeat' split
  all_goals simp

@[simp] theorem State.freeHandle_frame (s : State) (x : Nat) :
    (State.freeHandle s x).pending = s.pending ∧ (State.freeHandle s x).sent = s.sent ∧
    (State.freeHandle s x).now = s.now ∧ (State.freeHandle s x).ports = s.ports ∧
    (State.freeHandle s x).params = s.params ∧ (State.freeHandle s x).map = s.map ∧
    (State.freeHandle s x).heat = s.heat ∧ (State.freeHandle s x).pool = s.pool ∧
    (State.freeHandle s x).plan = s.plan ∧ (State.freeHandle s x).work = s.work ∧
    (State.freeHandle s x).jrn = s.jrn ∧ (State.freeHandle s x).recovery = s.recovery ∧
    (State.freeHandle s x).supply = s.supply ∧
    (State.freeHandle s x).owed = s.owed := by
  simp [State.freeHandle]

@[simp] theorem State.closeWrite_frame (s : State) (x : Nat) (y : OpenWrite) (z : Bool) :
    (State.closeWrite s x y z).1.pending = s.pending ∧ (State.closeWrite s x y z).1.sent = s.sent ∧
    (State.closeWrite s x y z).1.now = s.now ∧ (State.closeWrite s x y z).1.params = s.params ∧
    (State.closeWrite s x y z).1.heat = s.heat ∧ (State.closeWrite s x y z).1.recovery = s.recovery ∧
    (State.closeWrite s x y z).1.supply = s.supply ∧
    (State.closeWrite s x y z).1.owed = s.owed := by
  simp [State.closeWrite]

@[simp] theorem State.serveWriteClose_frame (s : State) (x : Nat) (y : Nat) (z : Nat) :
    (State.serveWriteClose s x y z).1.pending = s.pending ∧ (State.serveWriteClose s x y z).1.sent = s.sent ∧
    (State.serveWriteClose s x y z).1.now = s.now ∧ (State.serveWriteClose s x y z).1.params = s.params ∧
    (State.serveWriteClose s x y z).1.heat = s.heat ∧ (State.serveWriteClose s x y z).1.recovery = s.recovery ∧
    (State.serveWriteClose s x y z).1.supply = s.supply ∧
    (State.serveWriteClose s x y z).1.owed = s.owed := by
  unfold State.serveWriteClose
  dsimp only
  repeat' split
  all_goals simp

@[simp] theorem State.orphan_frame (s : State) (x : Nat) (y : OpenWrite) :
    (State.orphan s x y).pending = s.pending ∧ (State.orphan s x y).sent = s.sent ∧
    (State.orphan s x y).now = s.now ∧ (State.orphan s x y).params = s.params ∧ (State.orphan s x y).heat = s.heat ∧
    (State.orphan s x y).recovery = s.recovery ∧ (State.orphan s x y).supply = s.supply ∧
    (State.orphan s x y).owed = s.owed := by
  simp [State.orphan]

@[simp] theorem State.holdTimeout_frame (s : State) (x : Nat) (y : OpenWrite) :
    (State.holdTimeout s x y).pending = s.pending ∧ (State.holdTimeout s x y).sent = s.sent ∧
    (State.holdTimeout s x y).now = s.now ∧ (State.holdTimeout s x y).ports = s.ports ∧
    (State.holdTimeout s x y).params = s.params ∧ (State.holdTimeout s x y).map = s.map ∧
    (State.holdTimeout s x y).heat = s.heat ∧ (State.holdTimeout s x y).pool = s.pool ∧
    (State.holdTimeout s x y).plan = s.plan ∧ (State.holdTimeout s x y).work = s.work ∧
    (State.holdTimeout s x y).jrn = s.jrn ∧ (State.holdTimeout s x y).recovery = s.recovery ∧
    (State.holdTimeout s x y).supply = s.supply ∧
    (State.holdTimeout s x y).owed = s.owed := by
  simp [State.holdTimeout]

@[simp] theorem State.timeOut_frame (s : State) (x : Nat) :
    (State.timeOut s x).pending = s.pending ∧ (State.timeOut s x).sent = s.sent ∧ (State.timeOut s x).now = s.now ∧
    (State.timeOut s x).params = s.params ∧ (State.timeOut s x).heat = s.heat ∧
    (State.timeOut s x).recovery = s.recovery ∧ (State.timeOut s x).supply = s.supply ∧
    (State.timeOut s x).owed = s.owed := by
  unfold State.timeOut
  dsimp only
  repeat' split
  all_goals simp

@[simp] theorem State.heldClose_frame (s : State) (x : Nat) :
    (State.heldClose s x).pending = s.pending ∧ (State.heldClose s x).sent = s.sent ∧
    (State.heldClose s x).now = s.now ∧ (State.heldClose s x).params = s.params ∧
    (State.heldClose s x).heat = s.heat ∧ (State.heldClose s x).recovery = s.recovery ∧
    (State.heldClose s x).supply = s.supply ∧
    (State.heldClose s x).owed = s.owed := by
  unfold State.heldClose
  repeat' split
  all_goals simp

@[simp] theorem State.dirtyAfter_frame (s : State) (x : Rec) (y : Rec) :
    (State.dirtyAfter s x y).pending = s.pending ∧ (State.dirtyAfter s x y).sent = s.sent ∧
    (State.dirtyAfter s x y).now = s.now ∧ (State.dirtyAfter s x y).ports = s.ports ∧
    (State.dirtyAfter s x y).params = s.params ∧ (State.dirtyAfter s x y).map = s.map ∧
    (State.dirtyAfter s x y).heat = s.heat ∧ (State.dirtyAfter s x y).writes = s.writes ∧
    (State.dirtyAfter s x y).pool = s.pool ∧ (State.dirtyAfter s x y).work = s.work ∧
    (State.dirtyAfter s x y).jrn = s.jrn ∧ (State.dirtyAfter s x y).recovery = s.recovery ∧
    (State.dirtyAfter s x y).supply = s.supply ∧
    (State.dirtyAfter s x y).owed = s.owed := by
  unfold State.dirtyAfter
  repeat' split
  all_goals simp

@[simp] theorem Change.discard_frame (x : Nat) (y : Nat) (c : Change) (z : Nat) :
    (Change.discard x y c z).st.pending = c.st.pending ∧ (Change.discard x y c z).st.sent = c.st.sent ∧
    (Change.discard x y c z).st.now = c.st.now ∧ (Change.discard x y c z).st.ports = c.st.ports ∧
    (Change.discard x y c z).st.params = c.st.params ∧ (Change.discard x y c z).st.heat = c.st.heat ∧
    (Change.discard x y c z).st.work = c.st.work ∧ (Change.discard x y c z).st.jrn = c.st.jrn ∧
    (Change.discard x y c z).st.recovery = c.st.recovery ∧ (Change.discard x y c z).st.supply = c.st.supply ∧
    (Change.discard x y c z).st.owed = c.st.owed := by
  unfold Change.discard
  dsimp only
  repeat' split
  all_goals simp

@[simp] theorem State.serveDiscard_frame (s : State) (x : Nat) (y : Nat) :
    (State.serveDiscard s x y).1.pending = s.pending ∧ (State.serveDiscard s x y).1.sent = s.sent ∧
    (State.serveDiscard s x y).1.now = s.now ∧ (State.serveDiscard s x y).1.params = s.params ∧
    (State.serveDiscard s x y).1.heat = s.heat ∧ (State.serveDiscard s x y).1.recovery = s.recovery ∧
    (State.serveDiscard s x y).1.supply = s.supply ∧
    (State.serveDiscard s x y).1.owed = s.owed := by
  unfold State.serveDiscard
  simp only [State.refuse]
  repeat' split
  all_goals simp

@[simp] theorem State.pinGap_frame (s : State) (x : Nat × Nat) :
    (State.pinGap s x).pending = s.pending ∧ (State.pinGap s x).sent = s.sent ∧ (State.pinGap s x).now = s.now ∧
    (State.pinGap s x).ports = s.ports ∧ (State.pinGap s x).params = s.params ∧ (State.pinGap s x).heat = s.heat ∧
    (State.pinGap s x).writes = s.writes ∧ (State.pinGap s x).pool = s.pool ∧ (State.pinGap s x).plan = s.plan ∧
    (State.pinGap s x).work = s.work ∧ (State.pinGap s x).jrn = s.jrn ∧ (State.pinGap s x).recovery = s.recovery ∧
    (State.pinGap s x).supply = s.supply ∧
    (State.pinGap s x).owed = s.owed := by
  unfold State.pinGap
  repeat' split
  all_goals simp

@[simp] theorem State.makePinned_frame (s : State) (x : List (Nat × Nat)) :
    (State.makePinned s x).pending = s.pending ∧ (State.makePinned s x).sent = s.sent ∧
    (State.makePinned s x).now = s.now ∧ (State.makePinned s x).ports = s.ports ∧
    (State.makePinned s x).params = s.params ∧ (State.makePinned s x).heat = s.heat ∧
    (State.makePinned s x).writes = s.writes ∧ (State.makePinned s x).pool = s.pool ∧
    (State.makePinned s x).plan = s.plan ∧ (State.makePinned s x).work = s.work ∧
    (State.makePinned s x).jrn = s.jrn ∧ (State.makePinned s x).recovery = s.recovery ∧
    (State.makePinned s x).supply = s.supply ∧
    (State.makePinned s x).owed = s.owed := by
  simp [State.makePinned]

@[simp] theorem State.pinChange_frame (s : State) (x : Nat) (y : Nat) :
    (State.pinChange s x y).st.pending = s.pending ∧ (State.pinChange s x y).st.sent = s.sent ∧
    (State.pinChange s x y).st.now = s.now ∧ (State.pinChange s x y).st.ports = s.ports ∧
    (State.pinChange s x y).st.params = s.params ∧ (State.pinChange s x y).st.heat = s.heat ∧
    (State.pinChange s x y).st.writes = s.writes ∧ (State.pinChange s x y).st.pool = s.pool ∧
    (State.pinChange s x y).st.plan = s.plan ∧ (State.pinChange s x y).st.work = s.work ∧
    (State.pinChange s x y).st.jrn = s.jrn ∧ (State.pinChange s x y).st.recovery = s.recovery ∧
    (State.pinChange s x y).st.supply = s.supply ∧
    (State.pinChange s x y).st.owed = s.owed := by
  simp [State.pinChange]

@[simp] theorem State.servePin_frame (s : State) (x : Nat) (y : Nat) :
    (State.servePin s x y).1.pending = s.pending ∧ (State.servePin s x y).1.sent = s.sent ∧
    (State.servePin s x y).1.now = s.now ∧ (State.servePin s x y).1.params = s.params ∧
    (State.servePin s x y).1.heat = s.heat ∧ (State.servePin s x y).1.writes = s.writes ∧
    (State.servePin s x y).1.pool = s.pool ∧ (State.servePin s x y).1.recovery = s.recovery ∧
    (State.servePin s x y).1.supply = s.supply ∧
    (State.servePin s x y).1.owed = s.owed := by
  unfold State.servePin
  simp only [State.refuse]
  repeat' split
  all_goals simp

@[simp] theorem State.unpinChange_frame (s : State) (x : Nat) (y : Nat) :
    (State.unpinChange s x y).st.pending = s.pending ∧ (State.unpinChange s x y).st.sent = s.sent ∧
    (State.unpinChange s x y).st.now = s.now ∧ (State.unpinChange s x y).st.ports = s.ports ∧
    (State.unpinChange s x y).st.params = s.params ∧ (State.unpinChange s x y).st.heat = s.heat ∧
    (State.unpinChange s x y).st.writes = s.writes ∧ (State.unpinChange s x y).st.pool = s.pool ∧
    (State.unpinChange s x y).st.plan = s.plan ∧ (State.unpinChange s x y).st.work = s.work ∧
    (State.unpinChange s x y).st.jrn = s.jrn ∧ (State.unpinChange s x y).st.recovery = s.recovery ∧
    (State.unpinChange s x y).st.supply = s.supply ∧
    (State.unpinChange s x y).st.owed = s.owed := by
  simp [State.unpinChange]

@[simp] theorem State.afterUnpin_frame (s : State) (x : Nat) :
    (State.afterUnpin s x).pending = s.pending ∧ (State.afterUnpin s x).sent = s.sent ∧
    (State.afterUnpin s x).now = s.now ∧ (State.afterUnpin s x).params = s.params ∧
    (State.afterUnpin s x).heat = s.heat ∧ (State.afterUnpin s x).writes = s.writes ∧
    (State.afterUnpin s x).recovery = s.recovery ∧ (State.afterUnpin s x).supply = s.supply ∧
    (State.afterUnpin s x).owed = s.owed := by
  unfold State.afterUnpin
  repeat' split
  all_goals simp

@[simp] theorem State.serveUnpin_frame (s : State) (x : Nat) (y : Nat) :
    (State.serveUnpin s x y).1.pending = s.pending ∧ (State.serveUnpin s x y).1.sent = s.sent ∧
    (State.serveUnpin s x y).1.now = s.now ∧ (State.serveUnpin s x y).1.params = s.params ∧
    (State.serveUnpin s x y).1.heat = s.heat ∧ (State.serveUnpin s x y).1.writes = s.writes ∧
    (State.serveUnpin s x y).1.recovery = s.recovery ∧ (State.serveUnpin s x y).1.supply = s.supply ∧
    (State.serveUnpin s x y).1.owed = s.owed := by
  unfold State.serveUnpin
  simp only [State.refuse]
  repeat' split
  all_goals simp

@[simp] theorem State.serveSync_frame (s : State) :
    (State.serveSync s).1.pending = s.pending ∧ (State.serveSync s).1.sent = s.sent ∧
    (State.serveSync s).1.now = s.now ∧ (State.serveSync s).1.params = s.params ∧
    (State.serveSync s).1.map = s.map ∧ (State.serveSync s).1.heat = s.heat ∧
    (State.serveSync s).1.writes = s.writes ∧ (State.serveSync s).1.pool = s.pool ∧
    (State.serveSync s).1.plan = s.plan ∧ (State.serveSync s).1.recovery = s.recovery ∧
    (State.serveSync s).1.supply = s.supply ∧
    (State.serveSync s).1.owed = s.owed := by
  unfold State.serveSync
  dsimp only
  repeat' split
  all_goals simp

@[simp] theorem State.pend_frame (s : State) (x : Nat) (y : Holder) :
    (State.pend s x y).pending = s.pending ∧ (State.pend s x y).sent = s.sent ∧ (State.pend s x y).now = s.now ∧
    (State.pend s x y).ports = s.ports ∧ (State.pend s x y).params = s.params ∧ (State.pend s x y).map = s.map ∧
    (State.pend s x y).heat = s.heat ∧ (State.pend s x y).writes = s.writes ∧ (State.pend s x y).plan = s.plan ∧
    (State.pend s x y).work = s.work ∧ (State.pend s x y).jrn = s.jrn ∧ (State.pend s x y).recovery = s.recovery ∧
    (State.pend s x y).supply = s.supply ∧
    (State.pend s x y).owed = s.owed := by
  simp [State.pend]

@[simp] theorem State.retireHeld_frame (s : State) (x : Nat) (y : Rec) :
    (State.retireHeld s x y).st.pending = s.pending ∧ (State.retireHeld s x y).st.sent = s.sent ∧
    (State.retireHeld s x y).st.now = s.now ∧ (State.retireHeld s x y).st.ports = s.ports ∧
    (State.retireHeld s x y).st.params = s.params ∧ (State.retireHeld s x y).st.heat = s.heat ∧
    (State.retireHeld s x y).st.writes = s.writes ∧ (State.retireHeld s x y).st.work = s.work ∧
    (State.retireHeld s x y).st.jrn = s.jrn ∧ (State.retireHeld s x y).st.recovery = s.recovery ∧
    (State.retireHeld s x y).st.supply = s.supply ∧
    (State.retireHeld s x y).st.owed = s.owed := by
  unfold State.retireHeld
  repeat' split
  all_goals simp

@[simp] theorem State.retireReserved_frame (s : State) (x : Nat) (y : Job) :
    (State.retireReserved s x y).st.pending = s.pending ∧ (State.retireReserved s x y).st.sent = s.sent ∧
    (State.retireReserved s x y).st.now = s.now ∧ (State.retireReserved s x y).st.ports = s.ports ∧
    (State.retireReserved s x y).st.params = s.params ∧ (State.retireReserved s x y).st.heat = s.heat ∧
    (State.retireReserved s x y).st.writes = s.writes ∧ (State.retireReserved s x y).st.jrn = s.jrn ∧
    (State.retireReserved s x y).st.recovery = s.recovery ∧ (State.retireReserved s x y).st.supply = s.supply ∧
    (State.retireReserved s x y).st.owed = s.owed := by
  unfold State.retireReserved
  repeat' split
  all_goals simp

theorem State.retireChange_st {s : State} {x : Nat} {c : Change} (h : s.retireChange x = some c) :
    c.st.pending = s.pending ∧ c.st.sent = s.sent ∧ c.st.now = s.now ∧ c.st.ports = s.ports ∧ c.st.params = s.params ∧ c.st.heat = s.heat ∧ c.st.writes = s.writes ∧ c.st.jrn = s.jrn ∧ c.st.recovery = s.recovery ∧ c.st.supply = s.supply := by
  unfold State.retireChange at h
  split at h
  · cases h; simp
  · split at h
    · cases h; simp
    · split at h
      · cases h; simp
      · obtain ⟨r, -, rfl⟩ := Option.map_eq_some_iff.mp h; simp

@[simp] theorem State.serveRetire_frame (s : State) (x : Nat) :
    (State.serveRetire s x).1.pending = s.pending ∧ (State.serveRetire s x).1.sent = s.sent ∧
    (State.serveRetire s x).1.now = s.now ∧ (State.serveRetire s x).1.params = s.params ∧
    (State.serveRetire s x).1.heat = s.heat ∧ (State.serveRetire s x).1.writes = s.writes ∧
    (State.serveRetire s x).1.recovery = s.recovery ∧ (State.serveRetire s x).1.supply = s.supply := by
  unfold State.serveRetire
  simp only [State.refuse]
  split
  · simp
  · split
    · simp
    · split
      · simp
      · split
        · simp
        · rename_i e
          split <;> simp [State.retireChange_st e]

@[simp] theorem State.recordSpindle_frame (s : State) (x : Spindle) :
    (State.recordSpindle s x).pending = s.pending ∧ (State.recordSpindle s x).sent = s.sent ∧
    (State.recordSpindle s x).now = s.now ∧ (State.recordSpindle s x).params = s.params ∧
    (State.recordSpindle s x).map = s.map ∧ (State.recordSpindle s x).heat = s.heat ∧
    (State.recordSpindle s x).writes = s.writes ∧ (State.recordSpindle s x).pool = s.pool ∧
    (State.recordSpindle s x).jrn = s.jrn ∧
    (State.recordSpindle s x).recovery = s.recovery ∧ (State.recordSpindle s x).supply = s.supply ∧
    (State.recordSpindle s x).owed = s.owed := by
  unfold State.recordSpindle
  dsimp only
  repeat' split
  all_goals simp

@[simp] theorem State.serveSpindle_frame (s : State) (x : Nat) :
    (State.serveSpindle s x).1.pending = s.pending ∧ (State.serveSpindle s x).1.sent = s.sent ∧
    (State.serveSpindle s x).1.now = s.now ∧ (State.serveSpindle s x).1.params = s.params ∧
    (State.serveSpindle s x).1.map = s.map ∧ (State.serveSpindle s x).1.heat = s.heat ∧
    (State.serveSpindle s x).1.writes = s.writes ∧ (State.serveSpindle s x).1.pool = s.pool ∧
    (State.serveSpindle s x).1.jrn = s.jrn ∧
    (State.serveSpindle s x).1.recovery = s.recovery ∧ (State.serveSpindle s x).1.supply = s.supply ∧
    (State.serveSpindle s x).1.owed = s.owed := by
  unfold State.serveSpindle
  repeat' split
  all_goals simp

@[simp] theorem State.hand_frame (s : State) (x : Link) (y : Order) :
    (State.hand s x y).1.pending = s.pending ∧ (State.hand s x y).1.sent = s.sent ∧
    (State.hand s x y).1.now = s.now ∧ (State.hand s x y).1.ports = s.ports ∧
    (State.hand s x y).1.params = s.params ∧ (State.hand s x y).1.map = s.map ∧ (State.hand s x y).1.heat = s.heat ∧
    (State.hand s x y).1.writes = s.writes ∧ (State.hand s x y).1.pool = s.pool ∧
    (State.hand s x y).1.plan = s.plan ∧ (State.hand s x y).1.jrn = s.jrn ∧
    (State.hand s x y).1.recovery = s.recovery ∧ (State.hand s x y).1.supply = s.supply ∧
    (State.hand s x y).1.owed = s.owed := by
  simp [State.hand]

@[simp] theorem State.fetchD_frame (s : State) :
    (State.fetchD s).1.pending = s.pending ∧ (State.fetchD s).1.sent = s.sent ∧ (State.fetchD s).1.now = s.now ∧
    (State.fetchD s).1.ports = s.ports ∧ (State.fetchD s).1.params = s.params ∧ (State.fetchD s).1.map = s.map ∧
    (State.fetchD s).1.heat = s.heat ∧ (State.fetchD s).1.writes = s.writes ∧ (State.fetchD s).1.pool = s.pool ∧
    (State.fetchD s).1.plan = s.plan ∧ (State.fetchD s).1.jrn = s.jrn ∧ (State.fetchD s).1.recovery = s.recovery ∧
    (State.fetchD s).1.supply = s.supply ∧
    (State.fetchD s).1.owed = s.owed := by
  unfold State.fetchD
  repeat' split
  all_goals simp

@[simp] theorem State.fetchF_frame (s : State) :
    (State.fetchF s).1.pending = s.pending ∧ (State.fetchF s).1.sent = s.sent ∧ (State.fetchF s).1.now = s.now ∧
    (State.fetchF s).1.ports = s.ports ∧ (State.fetchF s).1.params = s.params ∧ (State.fetchF s).1.map = s.map ∧
    (State.fetchF s).1.heat = s.heat ∧ (State.fetchF s).1.writes = s.writes ∧ (State.fetchF s).1.pool = s.pool ∧
    (State.fetchF s).1.plan = s.plan ∧ (State.fetchF s).1.recovery = s.recovery ∧
    (State.fetchF s).1.supply = s.supply ∧
    (State.fetchF s).1.owed = s.owed := by
  unfold State.fetchF
  repeat' split
  all_goals simp

@[simp] theorem State.serveFetch_frame (s : State) (x : Link) :
    (State.serveFetch s x).1.pending = s.pending ∧ (State.serveFetch s x).1.sent = s.sent ∧
    (State.serveFetch s x).1.now = s.now ∧ (State.serveFetch s x).1.ports = s.ports ∧
    (State.serveFetch s x).1.params = s.params ∧ (State.serveFetch s x).1.map = s.map ∧
    (State.serveFetch s x).1.heat = s.heat ∧ (State.serveFetch s x).1.writes = s.writes ∧
    (State.serveFetch s x).1.pool = s.pool ∧ (State.serveFetch s x).1.plan = s.plan ∧
    (State.serveFetch s x).1.recovery = s.recovery ∧ (State.serveFetch s x).1.supply = s.supply ∧
    (State.serveFetch s x).1.owed = s.owed := by
  unfold State.serveFetch
  repeat' split
  all_goals simp

@[simp] theorem State.startStageTwo_frame (s : State) (x : Job) :
    (State.startStageTwo s x).pending = s.pending ∧ (State.startStageTwo s x).sent = s.sent ∧
    (State.startStageTwo s x).now = s.now ∧ (State.startStageTwo s x).params = s.params ∧
    (State.startStageTwo s x).map = s.map ∧ (State.startStageTwo s x).heat = s.heat ∧
    (State.startStageTwo s x).writes = s.writes ∧ (State.startStageTwo s x).pool = s.pool ∧
    (State.startStageTwo s x).plan = s.plan ∧ (State.startStageTwo s x).jrn = s.jrn ∧
    (State.startStageTwo s x).recovery = s.recovery ∧ (State.startStageTwo s x).supply = s.supply ∧
    (State.startStageTwo s x).owed = s.owed := by
  unfold State.startStageTwo
  repeat' split
  all_goals simp

@[simp] theorem State.stageDone_frame (s : State) (x : Job) :
    (State.stageDone s x).pending = s.pending ∧ (State.stageDone s x).sent = s.sent ∧
    (State.stageDone s x).now = s.now ∧ (State.stageDone s x).params = s.params ∧
    (State.stageDone s x).heat = s.heat ∧ (State.stageDone s x).writes = s.writes ∧
    (State.stageDone s x).recovery = s.recovery ∧ (State.stageDone s x).supply = s.supply ∧
    (State.stageDone s x).owed = s.owed := by
  unfold State.stageDone
  dsimp only
  repeat' split
  all_goals simp

@[simp] theorem State.requeue_frame (s : State) (x : Link) (y : Order) :
    (State.requeue s x y).pending = s.pending ∧ (State.requeue s x y).sent = s.sent ∧
    (State.requeue s x y).now = s.now ∧ (State.requeue s x y).ports = s.ports ∧
    (State.requeue s x y).params = s.params ∧ (State.requeue s x y).map = s.map ∧
    (State.requeue s x y).heat = s.heat ∧ (State.requeue s x y).writes = s.writes ∧
    (State.requeue s x y).pool = s.pool ∧ (State.requeue s x y).plan = s.plan ∧ (State.requeue s x y).jrn = s.jrn ∧
    (State.requeue s x y).recovery = s.recovery ∧ (State.requeue s x y).supply = s.supply ∧
    (State.requeue s x y).owed = s.owed := by
  unfold State.requeue
  repeat' split
  all_goals simp

@[simp] theorem State.stageAborted_frame (s : State) (x : Link) (y : Order) (z : Job) :
    (State.stageAborted s x y z).pending = s.pending ∧ (State.stageAborted s x y z).sent = s.sent ∧
    (State.stageAborted s x y z).now = s.now ∧ (State.stageAborted s x y z).params = s.params ∧
    (State.stageAborted s x y z).heat = s.heat ∧ (State.stageAborted s x y z).writes = s.writes ∧
    (State.stageAborted s x y z).jrn = s.jrn ∧ (State.stageAborted s x y z).recovery = s.recovery ∧
    (State.stageAborted s x y z).supply = s.supply ∧
    (State.stageAborted s x y z).owed = s.owed := by
  unfold State.stageAborted
  repeat' split
  all_goals simp

@[simp] theorem State.finishJob_frame (s : State) (x : Link) (y : Order) (z : FinishOutcome) :
    (State.finishJob s x y z).pending = s.pending ∧ (State.finishJob s x y z).sent = s.sent ∧
    (State.finishJob s x y z).now = s.now ∧ (State.finishJob s x y z).params = s.params ∧
    (State.finishJob s x y z).heat = s.heat ∧ (State.finishJob s x y z).writes = s.writes ∧
    (State.finishJob s x y z).recovery = s.recovery ∧ (State.finishJob s x y z).supply = s.supply ∧
    (State.finishJob s x y z).owed = s.owed := by
  unfold State.finishJob
  repeat' split
  all_goals simp

@[simp] theorem State.liftFence_frame (s : State) (x : Link) (y : Nat) (z : Nat) :
    (State.liftFence s x y z).pending = s.pending ∧ (State.liftFence s x y z).sent = s.sent ∧
    (State.liftFence s x y z).now = s.now ∧ (State.liftFence s x y z).params = s.params ∧
    (State.liftFence s x y z).map = s.map ∧ (State.liftFence s x y z).heat = s.heat ∧
    (State.liftFence s x y z).writes = s.writes ∧ (State.liftFence s x y z).pool = s.pool ∧
    (State.liftFence s x y z).plan = s.plan ∧ (State.liftFence s x y z).supply = s.supply ∧
    (State.liftFence s x y z).owed = s.owed := by
  simp [State.liftFence]

@[simp] theorem State.finishOrder_frame (s : State) (x : Link) (y : Order) (z : FinishOutcome) (u : Option (List Byte)) :
    (State.finishOrder s x y z u).pending = s.pending ∧ (State.finishOrder s x y z u).now = s.now ∧
    (State.finishOrder s x y z u).writes = s.writes := by
  unfold State.finishOrder
  dsimp only
  repeat' split
  all_goals simp

@[simp] theorem State.serveFinish_frame (s : State) (x : Link) (y : Nat) (z : Nat) (u : Nat) (v : Option (List Byte)) :
    (State.serveFinish s x y z u v).1.pending = s.pending ∧ (State.serveFinish s x y z u v).1.now = s.now ∧
    (State.serveFinish s x y z u v).1.writes = s.writes := by
  unfold State.serveFinish
  repeat' split
  all_goals simp

@[simp] theorem State.serveAttach_frame (s : State) (x : Nat) :
    (State.serveAttach s x).1.pending = s.pending ∧ (State.serveAttach s x).1.sent = s.sent ∧
    (State.serveAttach s x).1.now = s.now ∧ (State.serveAttach s x).1.params = s.params ∧
    (State.serveAttach s x).1.map = s.map ∧ (State.serveAttach s x).1.heat = s.heat ∧
    (State.serveAttach s x).1.writes = s.writes ∧ (State.serveAttach s x).1.pool = s.pool ∧
    (State.serveAttach s x).1.plan = s.plan ∧ (State.serveAttach s x).1.jrn = s.jrn ∧
    (State.serveAttach s x).1.supply = s.supply ∧
    (State.serveAttach s x).1.owed = s.owed := by
  unfold State.serveAttach
  repeat' split
  all_goals simp

@[simp] theorem State.beginFormat_frame (s : State) (x : Nat) (y : Nat) :
    (State.beginFormat s x y).pending = s.pending ∧ (State.beginFormat s x y).sent = s.sent ∧
    (State.beginFormat s x y).now = s.now ∧ (State.beginFormat s x y).writes = s.writes ∧
    (State.beginFormat s x y).plan = s.plan ∧ (State.beginFormat s x y).jrn = s.jrn ∧
    (State.beginFormat s x y).supply = s.supply ∧
    (State.beginFormat s x y).owed = s.owed := by
  simp [State.beginFormat]

@[simp] theorem State.serveFormat_frame (s : State) (x : Nat) (y : Nat) :
    (State.serveFormat s x y).1.pending = s.pending ∧ (State.serveFormat s x y).1.sent = s.sent ∧
    (State.serveFormat s x y).1.now = s.now ∧ (State.serveFormat s x y).1.writes = s.writes ∧
    (State.serveFormat s x y).1.plan = s.plan ∧ (State.serveFormat s x y).1.jrn = s.jrn ∧
    (State.serveFormat s x y).1.supply = s.supply ∧
    (State.serveFormat s x y).1.owed = s.owed := by
  unfold State.serveFormat
  repeat' split
  all_goals simp

@[simp] theorem State.withdrawNext_frame (s : State) :
    (State.withdrawNext s).pending = s.pending ∧ (State.withdrawNext s).sent = s.sent ∧
    (State.withdrawNext s).now = s.now ∧ (State.withdrawNext s).heat = s.heat ∧
    (State.withdrawNext s).supply = s.supply ∧
    (State.withdrawNext s).owed = s.owed := by
  unfold State.withdrawNext
  dsimp only
  repeat' split
  all_goals simp

@[simp] theorem State.store_frame (s : State) (x : Link) (y : Param) (z : Nat) :
    (State.store s x y z).pending = s.pending ∧ (State.store s x y z).sent = s.sent ∧
    (State.store s x y z).now = s.now ∧ (State.store s x y z).map = s.map ∧ (State.store s x y z).heat = s.heat ∧
    (State.store s x y z).writes = s.writes ∧ (State.store s x y z).pool = s.pool ∧
    (State.store s x y z).plan = s.plan ∧ (State.store s x y z).work = s.work ∧ (State.store s x y z).jrn = s.jrn ∧
    (State.store s x y z).recovery = s.recovery ∧ (State.store s x y z).supply = s.supply ∧
    (State.store s x y z).owed = s.owed := by
  unfold State.store
  repeat' split
  all_goals simp

@[simp] theorem State.lingerExpire_frame (s : State) :
    (State.lingerExpire s).pending = s.pending ∧ (State.lingerExpire s).sent = s.sent ∧
    (State.lingerExpire s).now = s.now ∧ (State.lingerExpire s).params = s.params ∧
    (State.lingerExpire s).map = s.map ∧ (State.lingerExpire s).heat = s.heat ∧
    (State.lingerExpire s).writes = s.writes ∧ (State.lingerExpire s).pool = s.pool ∧
    (State.lingerExpire s).plan = s.plan ∧ (State.lingerExpire s).recovery = s.recovery ∧
    (State.lingerExpire s).supply = s.supply ∧
    (State.lingerExpire s).owed = s.owed := by
  simp [State.lingerExpire]

@[simp] theorem State.timeOutDue_frame (s : State) (x : Nat) :
    (State.timeOutDue s x).pending = s.pending ∧ (State.timeOutDue s x).sent = s.sent ∧
    (State.timeOutDue s x).now = s.now ∧ (State.timeOutDue s x).params = s.params ∧
    (State.timeOutDue s x).heat = s.heat ∧ (State.timeOutDue s x).recovery = s.recovery ∧
    (State.timeOutDue s x).supply = s.supply ∧
    (State.timeOutDue s x).owed = s.owed := by
  unfold State.timeOutDue
  repeat' split
  all_goals simp

@[simp] theorem State.timeOutAll_frame (s : State) :
    (State.timeOutAll s).pending = s.pending ∧ (State.timeOutAll s).sent = s.sent ∧
    (State.timeOutAll s).now = s.now ∧ (State.timeOutAll s).params = s.params ∧ (State.timeOutAll s).heat = s.heat ∧
    (State.timeOutAll s).recovery = s.recovery ∧ (State.timeOutAll s).supply = s.supply ∧
    (State.timeOutAll s).owed = s.owed := by
  simp [State.timeOutAll]

@[simp] theorem State.paramEffect_frame (s : State) (x : Link) (y : Param) :
    (State.paramEffect s x y).pending = s.pending ∧ (State.paramEffect s x y).sent = s.sent ∧
    (State.paramEffect s x y).now = s.now ∧ (State.paramEffect s x y).recovery = s.recovery ∧
    (State.paramEffect s x y).owed = s.owed := by
  unfold State.paramEffect
  repeat' split
  all_goals simp

@[simp] theorem State.serveSetParam_frame (s : State) (x : Link) (y : Nat) (z : Nat) :
    (State.serveSetParam s x y z).1.pending = s.pending ∧ (State.serveSetParam s x y z).1.sent = s.sent ∧
    (State.serveSetParam s x y z).1.now = s.now ∧ (State.serveSetParam s x y z).1.recovery = s.recovery ∧
    (State.serveSetParam s x y z).1.owed = s.owed := by
  unfold State.serveSetParam
  repeat' split
  all_goals simp

@[simp] theorem State.serveGetParam_frame (s : State) (x : Link) (y : Nat) :
    (State.serveGetParam s x y).1.pending = s.pending ∧ (State.serveGetParam s x y).1.sent = s.sent ∧
    (State.serveGetParam s x y).1.now = s.now ∧ (State.serveGetParam s x y).1.ports = s.ports ∧
    (State.serveGetParam s x y).1.params = s.params ∧ (State.serveGetParam s x y).1.map = s.map ∧
    (State.serveGetParam s x y).1.heat = s.heat ∧ (State.serveGetParam s x y).1.writes = s.writes ∧
    (State.serveGetParam s x y).1.pool = s.pool ∧ (State.serveGetParam s x y).1.plan = s.plan ∧
    (State.serveGetParam s x y).1.work = s.work ∧ (State.serveGetParam s x y).1.jrn = s.jrn ∧
    (State.serveGetParam s x y).1.recovery = s.recovery ∧ (State.serveGetParam s x y).1.supply = s.supply ∧
    (State.serveGetParam s x y).1.owed = s.owed := by
  unfold State.serveGetParam
  repeat' split
  all_goals simp

@[simp] theorem State.serveStatus_frame (s : State) :
    (State.serveStatus s).1.pending = s.pending ∧ (State.serveStatus s).1.sent = s.sent ∧
    (State.serveStatus s).1.now = s.now ∧ (State.serveStatus s).1.ports = s.ports ∧
    (State.serveStatus s).1.params = s.params ∧ (State.serveStatus s).1.map = s.map ∧
    (State.serveStatus s).1.heat = s.heat ∧ (State.serveStatus s).1.writes = s.writes ∧
    (State.serveStatus s).1.pool = s.pool ∧ (State.serveStatus s).1.plan = s.plan ∧
    (State.serveStatus s).1.work = s.work ∧ (State.serveStatus s).1.jrn = s.jrn ∧
    (State.serveStatus s).1.recovery = s.recovery ∧
    (State.serveStatus s).1.owed = s.owed := by
  simp [State.serveStatus]

@[simp] theorem State.serveGetNotice_frame (s : State) (x : Link) :
    (State.serveGetNotice s x).1.pending = s.pending ∧ (State.serveGetNotice s x).1.sent = s.sent ∧
    (State.serveGetNotice s x).1.now = s.now ∧ (State.serveGetNotice s x).1.params = s.params ∧
    (State.serveGetNotice s x).1.map = s.map ∧ (State.serveGetNotice s x).1.heat = s.heat ∧
    (State.serveGetNotice s x).1.writes = s.writes ∧ (State.serveGetNotice s x).1.pool = s.pool ∧
    (State.serveGetNotice s x).1.plan = s.plan ∧ (State.serveGetNotice s x).1.work = s.work ∧
    (State.serveGetNotice s x).1.jrn = s.jrn ∧ (State.serveGetNotice s x).1.recovery = s.recovery ∧
    (State.serveGetNotice s x).1.supply = s.supply ∧
    (State.serveGetNotice s x).1.owed = s.owed := by
  unfold State.serveGetNotice
  dsimp only
  repeat' split
  all_goals simp

@[simp] theorem State.startPromotion_frame (s : State) (x : Rec) (y : Nat) :
    (State.startPromotion s x y).pending = s.pending ∧ (State.startPromotion s x y).sent = s.sent ∧
    (State.startPromotion s x y).now = s.now ∧ (State.startPromotion s x y).params = s.params ∧
    (State.startPromotion s x y).writes = s.writes ∧ (State.startPromotion s x y).jrn = s.jrn ∧
    (State.startPromotion s x y).recovery = s.recovery ∧ (State.startPromotion s x y).supply = s.supply ∧
    (State.startPromotion s x y).owed = s.owed := by
  simp [State.startPromotion]

@[simp] theorem State.promoteHead_frame (s : State) :
    (State.promoteHead s).pending = s.pending ∧ (State.promoteHead s).sent = s.sent ∧
    (State.promoteHead s).now = s.now ∧ (State.promoteHead s).params = s.params ∧
    (State.promoteHead s).writes = s.writes ∧ (State.promoteHead s).jrn = s.jrn ∧
    (State.promoteHead s).recovery = s.recovery ∧ (State.promoteHead s).supply = s.supply ∧
    (State.promoteHead s).owed = s.owed := by
  unfold State.promoteHead
  repeat' split
  all_goals simp

@[simp] theorem State.dropUnfit_frame (s : State) :
    (State.dropUnfit s).pending = s.pending ∧ (State.dropUnfit s).sent = s.sent ∧ (State.dropUnfit s).now = s.now ∧
    (State.dropUnfit s).ports = s.ports ∧ (State.dropUnfit s).params = s.params ∧ (State.dropUnfit s).map = s.map ∧
    (State.dropUnfit s).heat = s.heat ∧ (State.dropUnfit s).writes = s.writes ∧ (State.dropUnfit s).pool = s.pool ∧
    (State.dropUnfit s).work = s.work ∧ (State.dropUnfit s).jrn = s.jrn ∧
    (State.dropUnfit s).recovery = s.recovery ∧ (State.dropUnfit s).supply = s.supply ∧
    (State.dropUnfit s).owed = s.owed := by
  simp [State.dropUnfit]

@[simp] theorem State.releaseFor_frame (s : State) (x : Rec) :
    (State.releaseFor s x).pending = s.pending ∧ (State.releaseFor s x).sent = s.sent ∧
    (State.releaseFor s x).now = s.now ∧ (State.releaseFor s x).params = s.params ∧
    (State.releaseFor s x).heat = s.heat ∧ (State.releaseFor s x).writes = s.writes ∧
    (State.releaseFor s x).recovery = s.recovery ∧ (State.releaseFor s x).supply = s.supply ∧
    (State.releaseFor s x).owed = s.owed := by
  unfold State.releaseFor
  dsimp only
  repeat' split
  all_goals simp

@[simp] theorem State.startWriteback_frame (s : State) (x : Rec) (y : Nat) :
    (State.startWriteback s x y).pending = s.pending ∧ (State.startWriteback s x y).sent = s.sent ∧
    (State.startWriteback s x y).now = s.now ∧ (State.startWriteback s x y).params = s.params ∧
    (State.startWriteback s x y).heat = s.heat ∧ (State.startWriteback s x y).writes = s.writes ∧
    (State.startWriteback s x y).pool = s.pool ∧ (State.startWriteback s x y).jrn = s.jrn ∧
    (State.startWriteback s x y).recovery = s.recovery ∧ (State.startWriteback s x y).supply = s.supply ∧
    (State.startWriteback s x y).owed = s.owed := by
  simp [State.startWriteback]

@[simp] theorem State.writeBackChosen_frame (s : State) :
    (State.writeBackChosen s).pending = s.pending ∧ (State.writeBackChosen s).sent = s.sent ∧
    (State.writeBackChosen s).now = s.now ∧ (State.writeBackChosen s).params = s.params ∧
    (State.writeBackChosen s).heat = s.heat ∧ (State.writeBackChosen s).writes = s.writes ∧
    (State.writeBackChosen s).pool = s.pool ∧ (State.writeBackChosen s).jrn = s.jrn ∧
    (State.writeBackChosen s).recovery = s.recovery ∧ (State.writeBackChosen s).supply = s.supply ∧
    (State.writeBackChosen s).owed = s.owed := by
  unfold State.writeBackChosen
  repeat' split
  all_goals simp

@[simp] theorem State.visitTracked_frame (s : State) (x : Rec) :
    (State.visitTracked s x).pending = s.pending ∧ (State.visitTracked s x).sent = s.sent ∧
    (State.visitTracked s x).now = s.now ∧ (State.visitTracked s x).ports = s.ports ∧
    (State.visitTracked s x).params = s.params ∧ (State.visitTracked s x).heat = s.heat ∧
    (State.visitTracked s x).pool = s.pool ∧ (State.visitTracked s x).work = s.work ∧
    (State.visitTracked s x).jrn = s.jrn ∧ (State.visitTracked s x).recovery = s.recovery ∧
    (State.visitTracked s x).supply = s.supply ∧
    (State.visitTracked s x).owed = s.owed := by
  unfold State.visitTracked
  repeat' split
  all_goals simp

@[simp] theorem State.visitMirrored_frame (s : State) (x : Rec) :
    (State.visitMirrored s x).pending = s.pending ∧ (State.visitMirrored s x).sent = s.sent ∧
    (State.visitMirrored s x).now = s.now ∧ (State.visitMirrored s x).ports = s.ports ∧
    (State.visitMirrored s x).params = s.params ∧ (State.visitMirrored s x).map = s.map ∧
    (State.visitMirrored s x).heat = s.heat ∧ (State.visitMirrored s x).writes = s.writes ∧
    (State.visitMirrored s x).pool = s.pool ∧ (State.visitMirrored s x).work = s.work ∧
    (State.visitMirrored s x).jrn = s.jrn ∧ (State.visitMirrored s x).recovery = s.recovery ∧
    (State.visitMirrored s x).supply = s.supply ∧
    (State.visitMirrored s x).owed = s.owed := by
  unfold State.visitMirrored
  repeat' split
  all_goals simp

@[simp] theorem State.visitFailed_frame (s : State) (x : Nat) :
    (State.visitFailed s x).pending = s.pending ∧ (State.visitFailed s x).sent = s.sent ∧
    (State.visitFailed s x).now = s.now ∧ (State.visitFailed s x).ports = s.ports ∧
    (State.visitFailed s x).params = s.params ∧ (State.visitFailed s x).heat = s.heat ∧
    (State.visitFailed s x).writes = s.writes ∧ (State.visitFailed s x).pool = s.pool ∧
    (State.visitFailed s x).work = s.work ∧ (State.visitFailed s x).jrn = s.jrn ∧
    (State.visitFailed s x).recovery = s.recovery ∧ (State.visitFailed s x).supply = s.supply ∧
    (State.visitFailed s x).owed = s.owed := by
  unfold State.visitFailed
  repeat' split
  all_goals simp

@[simp] theorem State.visit_frame (s : State) (x : Nat) :
    (State.visit s x).pending = s.pending ∧ (State.visit s x).sent = s.sent ∧ (State.visit s x).now = s.now ∧
    (State.visit s x).params = s.params ∧ (State.visit s x).heat = s.heat ∧
    (State.visit s x).recovery = s.recovery ∧ (State.visit s x).supply = s.supply ∧
    (State.visit s x).owed = s.owed := by
  unfold State.visit
  repeat' split
  all_goals simp

@[simp] theorem State.endWalk_frame (s : State) :
    (State.endWalk s).pending = s.pending ∧ (State.endWalk s).sent = s.sent ∧ (State.endWalk s).now = s.now ∧
    (State.endWalk s).ports = s.ports ∧ (State.endWalk s).params = s.params ∧ (State.endWalk s).map.records = s.map.records ∧
    (State.endWalk s).heat = s.heat ∧ (State.endWalk s).writes = s.writes ∧ (State.endWalk s).pool = s.pool ∧
    (State.endWalk s).work = s.work ∧ (State.endWalk s).jrn = s.jrn ∧ (State.endWalk s).recovery = s.recovery ∧
    (State.endWalk s).supply = s.supply ∧
    (State.endWalk s).owed = s.owed := by
  unfold State.endWalk
  dsimp only
  repeat' split
  all_goals simp

@[simp] theorem State.afterVisit_frame (s : State) (x : Nat) :
    (State.afterVisit s x).pending = s.pending ∧ (State.afterVisit s x).sent = s.sent ∧
    (State.afterVisit s x).now = s.now ∧ (State.afterVisit s x).ports = s.ports ∧
    (State.afterVisit s x).params = s.params ∧ (State.afterVisit s x).map.records = s.map.records ∧
    (State.afterVisit s x).heat = s.heat ∧ (State.afterVisit s x).writes = s.writes ∧
    (State.afterVisit s x).pool = s.pool ∧ (State.afterVisit s x).work = s.work ∧
    (State.afterVisit s x).jrn = s.jrn ∧ (State.afterVisit s x).recovery = s.recovery ∧
    (State.afterVisit s x).supply = s.supply ∧
    (State.afterVisit s x).owed = s.owed := by
  unfold State.afterVisit
  repeat' split
  all_goals simp

@[simp] theorem State.passBegun_frame (s : State) :
    (State.passBegun s).pending = s.pending ∧ (State.passBegun s).sent = s.sent ∧ (State.passBegun s).now = s.now ∧
    (State.passBegun s).ports = s.ports ∧ (State.passBegun s).params = s.params ∧ (State.passBegun s).map.records = s.map.records ∧
    (State.passBegun s).heat = s.heat ∧ (State.passBegun s).writes = s.writes ∧ (State.passBegun s).pool = s.pool ∧
    (State.passBegun s).plan = s.plan ∧ (State.passBegun s).work = s.work ∧
    (State.passBegun s).recovery = s.recovery ∧ (State.passBegun s).supply = s.supply ∧
    (State.passBegun s).owed = s.owed := by
  simp [State.passBegun]

@[simp] theorem State.beginPass_frame (s : State) :
    (State.beginPass s).pending = s.pending ∧ (State.beginPass s).sent = s.sent ∧ (State.beginPass s).now = s.now ∧
    (State.beginPass s).params = s.params ∧ (State.beginPass s).map.records = s.map.records ∧ (State.beginPass s).heat = s.heat ∧
    (State.beginPass s).writes = s.writes ∧ (State.beginPass s).pool = s.pool ∧ (State.beginPass s).plan = s.plan ∧
    (State.beginPass s).recovery = s.recovery ∧ (State.beginPass s).supply = s.supply ∧
    (State.beginPass s).owed = s.owed := by
  unfold State.beginPass
  dsimp only
  repeat' split
  all_goals simp

@[simp] theorem State.setPassPhase_frame (s : State) (x : PassPhase) :
    (State.setPassPhase s x).pending = s.pending ∧ (State.setPassPhase s x).sent = s.sent ∧
    (State.setPassPhase s x).now = s.now ∧ (State.setPassPhase s x).ports = s.ports ∧
    (State.setPassPhase s x).params = s.params ∧ (State.setPassPhase s x).map = s.map ∧
    (State.setPassPhase s x).heat = s.heat ∧ (State.setPassPhase s x).writes = s.writes ∧
    (State.setPassPhase s x).pool = s.pool ∧ (State.setPassPhase s x).plan = s.plan ∧
    (State.setPassPhase s x).work = s.work ∧ (State.setPassPhase s x).recovery = s.recovery ∧
    (State.setPassPhase s x).supply = s.supply ∧
    (State.setPassPhase s x).owed = s.owed := by
  simp [State.setPassPhase]

@[simp] theorem State.passVisit_frame (s : State) (x : Nat) :
    (State.passVisit s x).pending = s.pending ∧ (State.passVisit s x).sent = s.sent ∧
    (State.passVisit s x).now = s.now ∧ (State.passVisit s x).params = s.params ∧
    (State.passVisit s x).map.records = s.map.records ∧ (State.passVisit s x).heat = s.heat ∧
    (State.passVisit s x).writes = s.writes ∧ (State.passVisit s x).pool = s.pool ∧
    (State.passVisit s x).plan = s.plan ∧ (State.passVisit s x).recovery = s.recovery ∧
    (State.passVisit s x).supply = s.supply ∧
    (State.passVisit s x).owed = s.owed := by
  unfold State.passVisit
  dsimp only
  repeat' split
  all_goals simp

@[simp] theorem State.recordRetired_frame (s : State) (x : List Nat) :
    (State.recordRetired s x).pending = s.pending ∧ (State.recordRetired s x).sent = s.sent ∧
    (State.recordRetired s x).now = s.now ∧ (State.recordRetired s x).params = s.params ∧
    (State.recordRetired s x).map = s.map ∧ (State.recordRetired s x).heat = s.heat ∧
    (State.recordRetired s x).writes = s.writes ∧ (State.recordRetired s x).pool = s.pool ∧
    (State.recordRetired s x).plan = s.plan ∧ (State.recordRetired s x).recovery = s.recovery ∧
    (State.recordRetired s x).supply = s.supply ∧
    (State.recordRetired s x).owed = s.owed := by
  unfold State.recordRetired
  dsimp only
  repeat' split
  all_goals simp

@[simp] theorem State.endPass_frame (s : State) :
    (State.endPass s).pending = s.pending ∧ (State.endPass s).sent = s.sent ∧ (State.endPass s).now = s.now ∧
    (State.endPass s).params = s.params ∧ (State.endPass s).map = s.map ∧ (State.endPass s).heat = s.heat ∧
    (State.endPass s).writes = s.writes ∧ (State.endPass s).pool = s.pool ∧ (State.endPass s).plan = s.plan ∧
    (State.endPass s).recovery = s.recovery ∧ (State.endPass s).supply = s.supply ∧
    (State.endPass s).owed = s.owed := by
  unfold State.endPass
  dsimp only
  repeat' split
  all_goals simp

@[simp] theorem State.requestPass_frame (s : State) :
    (State.requestPass s).pending = s.pending ∧ (State.requestPass s).sent = s.sent ∧
    (State.requestPass s).now = s.now ∧ (State.requestPass s).ports = s.ports ∧
    (State.requestPass s).params = s.params ∧ (State.requestPass s).map = s.map ∧
    (State.requestPass s).heat = s.heat ∧ (State.requestPass s).writes = s.writes ∧
    (State.requestPass s).pool = s.pool ∧ (State.requestPass s).plan = s.plan ∧
    (State.requestPass s).work = s.work ∧ (State.requestPass s).recovery = s.recovery ∧
    (State.requestPass s).supply = s.supply ∧
    (State.requestPass s).owed = s.owed := by
  simp [State.requestPass]

@[simp] theorem State.beginQuiesce_frame (s : State) (x : SleepMode) (y : Bool) :
    (State.beginQuiesce s x y).1.pending = s.pending ∧ (State.beginQuiesce s x y).1.sent = s.sent ∧
    (State.beginQuiesce s x y).1.now = s.now ∧ (State.beginQuiesce s x y).1.ports = s.ports ∧
    (State.beginQuiesce s x y).1.params = s.params ∧ (State.beginQuiesce s x y).1.heat = s.heat ∧
    (State.beginQuiesce s x y).1.writes = s.writes ∧ (State.beginQuiesce s x y).1.recovery = s.recovery ∧
    (State.beginQuiesce s x y).1.owed = s.owed := by
  unfold State.beginQuiesce
  dsimp only
  repeat' split
  all_goals simp

@[simp] theorem State.retarget_frame (s : State) (x : SleepMode) (y : SleepMode) (z : Bool) (u : Bool) :
    (State.retarget s x y z u).1.pending = s.pending ∧ (State.retarget s x y z u).1.now = s.now ∧
    (State.retarget s x y z u).1.params = s.params ∧ (State.retarget s x y z u).1.map = s.map ∧
    (State.retarget s x y z u).1.heat = s.heat ∧ (State.retarget s x y z u).1.writes = s.writes ∧
    (State.retarget s x y z u).1.pool = s.pool ∧ (State.retarget s x y z u).1.plan = s.plan ∧
    (State.retarget s x y z u).1.work = s.work ∧ (State.retarget s x y z u).1.recovery = s.recovery ∧
    (State.retarget s x y z u).1.owed = s.owed := by
  unfold State.retarget
  dsimp only
  repeat' split
  all_goals simp

@[simp] theorem State.cancelQuiesce_frame (s : State) (x : Mode) :
    (State.cancelQuiesce s x).1.pending = s.pending ∧ (State.cancelQuiesce s x).1.now = s.now ∧
    (State.cancelQuiesce s x).1.params = s.params ∧ (State.cancelQuiesce s x).1.map = s.map ∧
    (State.cancelQuiesce s x).1.heat = s.heat ∧ (State.cancelQuiesce s x).1.writes = s.writes ∧
    (State.cancelQuiesce s x).1.pool = s.pool ∧ (State.cancelQuiesce s x).1.plan = s.plan ∧
    (State.cancelQuiesce s x).1.work = s.work ∧ (State.cancelQuiesce s x).1.recovery = s.recovery ∧
    (State.cancelQuiesce s x).1.owed = s.owed := by
  simp [State.cancelQuiesce]

@[simp] theorem State.servePower_frame (s : State) (x : Nat) :
    (State.servePower s x).1.pending = s.pending ∧ (State.servePower s x).1.now = s.now ∧
    (State.servePower s x).1.params = s.params ∧ (State.servePower s x).1.heat = s.heat ∧
    (State.servePower s x).1.writes = s.writes ∧ (State.servePower s x).1.recovery = s.recovery ∧
    (State.servePower s x).1.owed = s.owed := by
  unfold State.servePower
  repeat' split
  all_goals simp

@[simp] theorem State.lowerRstn_frame (s : State) :
    (State.lowerRstn s).pending = s.pending ∧ (State.lowerRstn s).sent = s.sent ∧
    (State.lowerRstn s).now = s.now := by
  unfold State.lowerRstn
  dsimp only
  repeat' split
  all_goals simp

@[simp] theorem State.raiseRstn_frame (s : State) (x : Nat) :
    (State.raiseRstn s x).pending = s.pending ∧ (State.raiseRstn s x).now = s.now := by
  unfold State.raiseRstn
  dsimp only
  repeat' split
  all_goals simp

@[simp] theorem State.holdReset_frame (s : State) (x : Nat) :
    (State.holdReset s x).pending = s.pending ∧ (State.holdReset s x).sent = s.sent ∧
    (State.holdReset s x).now = s.now ∧ (State.holdReset s x).params = s.params ∧
    (State.holdReset s x).map = s.map ∧ (State.holdReset s x).heat = s.heat ∧
    (State.holdReset s x).writes = s.writes ∧ (State.holdReset s x).pool = s.pool ∧
    (State.holdReset s x).plan = s.plan ∧ (State.holdReset s x).work = s.work ∧ (State.holdReset s x).jrn = s.jrn ∧
    (State.holdReset s x).recovery = s.recovery ∧
    (State.holdReset s x).owed = s.owed := by
  simp [State.holdReset]

@[simp] theorem State.supplyPins_frame (s : State) (x : Bool) (y : Nat) :
    (State.supplyPins s x y).pending = s.pending ∧ (State.supplyPins s x y).now = s.now := by
  unfold State.supplyPins
  dsimp only
  repeat' split
  all_goals simp

@[simp] theorem State.passTime_frame (s : State) :
    (State.passTime s).pending = s.pending ∧ (State.passTime s).sent = s.sent ∧ (State.passTime s).ports = s.ports ∧
    (State.passTime s).params = s.params ∧ (State.passTime s).map = s.map ∧ (State.passTime s).writes = s.writes ∧
    (State.passTime s).pool = s.pool ∧ (State.passTime s).plan = s.plan ∧ (State.passTime s).work = s.work ∧
    (State.passTime s).jrn = s.jrn ∧ (State.passTime s).recovery = s.recovery ∧
    (State.passTime s).owed = s.owed := by
  unfold State.passTime
  dsimp only
  repeat' split
  all_goals simp

end Sys2Proof.Machine
end

