-- ==== Sys2Proof/Laws/Links.lean ====
section
/-! SUPPORT. What the links do with a request command on a ready link: its frame is accepted, it is taken, and its
reply leaves with the list as it was. -/

namespace Sys2Proof.Machine

/-! ## Ports -/

@[simp] theorem Ports.get_put (p : Ports) (l : Link) (x : Port) : (p.put l x).get l = x := by cases l <;> rfl

theorem Ports.get_put_ne (p : Ports) {l m : Link} (h : m ≠ l) (x : Port) : (p.put l x).get m = p.get m := by
  cases l <;> cases m <;> first | rfl | exact absurd rfl h

@[simp] theorem Ports.put_get (p : Ports) (l : Link) : p.put l (p.get l) = p := by cases l <;> rfl

@[simp] theorem Ports.put_put (p : Ports) (l : Link) (x y : Port) : (p.put l x).put l y = p.put l y := by
  cases l <;> rfl

@[simp] theorem State.setPort_ports (s : State) (l : Link) (x : Port) : (s.setPort l x).ports = s.ports.put l x := rfl

@[simp] theorem State.setPort_port (s : State) (l : Link) (x : Port) : (s.setPort l x).port l = x := by
  simp [State.port]

theorem State.setPort_port_ne (s : State) {l m : Link} (h : m ≠ l) (x : Port) : (s.setPort l x).port m = s.port m := by
  simp [State.port, Ports.get_put_ne _ h]

@[simp] theorem State.setPort_setPort (s : State) (l : Link) (x y : Port) :
    (s.setPort l x).setPort l y = s.setPort l y := by
  simp [State.setPort]

@[simp] theorem State.setPort_self (s : State) (l : Link) : s.setPort l (s.port l) = s := by
  simp [State.setPort, State.port]

@[simp] theorem State.send_sent (s : State) (r : Reply) : (s.send r).sent = s.sent ++ [r] := rfl

@[simp] theorem State.listing_ports (s : State) (l : Link) (r : Request) (tag : Nat) :
    (s.listing l r tag).ports =
      s.ports.put l { s.port l with accepted := (s.port l).accepted ++ [listed r tag] } := rfl

@[simp] theorem State.listing_frame (s : State) (l : Link) (r : Request) (tag : Nat) :
    (s.listing l r tag).pending = s.pending ∧ (s.listing l r tag).sent = s.sent ∧
    (s.listing l r tag).now = s.now ∧ (s.listing l r tag).params = s.params ∧ (s.listing l r tag).map = s.map ∧
    (s.listing l r tag).heat = s.heat ∧ (s.listing l r tag).writes = s.writes ∧
    (s.listing l r tag).pool = s.pool ∧ (s.listing l r tag).plan = s.plan ∧ (s.listing l r tag).work = s.work ∧
    (s.listing l r tag).jrn = s.jrn ∧ (s.listing l r tag).recovery = s.recovery ∧
    (s.listing l r tag).supply = s.supply := by
  simp [State.listing]

/-! ## The accepted-request list -/

/-- A list whose requests all wait for deferred replies holds no request to take. -/
theorem State.nextRequest_none {s : State} {l : Link} :
    s.nextRequest l = none ↔ ∀ a ∈ (s.port l).accepted, a.standing ≠ .accepted := by
  simp [State.nextRequest]

/-- Requests that wait for deferred replies keep their places when refused ones are answered. -/
theorem answerRefusedList_deferred (l : Link) (xs ys : List Accepted) (h : ∀ a ∈ xs, a.standing ≠ .accepted) :
    answerRefusedList l (xs ++ ys) = (xs ++ (answerRefusedList l ys).1, (answerRefusedList l ys).2) := by
  induction xs with
  | nil => rfl
  | cons x xs ih =>
    have hx := h x (by simp)
    simp [answerRefusedList, hx, ih (fun a ha => h a (by simp [ha]))]

/-- A request that passes the link checks stays on the list. -/
theorem answerRefusedList_good (l : Link) (a : Accepted) (rest : List Accepted) (h : a.standing = .accepted)
    (hr : linkRefusal l a = none) : answerRefusedList l (a :: rest) = (a :: rest, []) := by
  simp [answerRefusedList, h, hr]

theorem replaceFirst_deferred (f : Accepted → List Accepted) (xs : List Accepted) (a : Accepted)
    (h : ∀ x ∈ xs, x.standing ≠ .accepted) (ha : a.standing = .accepted) :
    replaceFirst f (xs ++ [a]) = xs ++ f a := by
  induction xs with
  | nil => simp [replaceFirst, ha]
  | cons x xs ih =>
    have hx := h x (by simp)
    simp [replaceFirst, hx, ih (fun y hy => h y (by simp [hy]))]

/-! ## The frame of a request -/

@[simp] theorem frameTag_requestFrame (r : Request) {tag : Nat} (h : tag < 16) : frameTag (requestFrame r tag) = tag := by
  simp [frameTag, requestFrame]; omega

@[simp] theorem requestFrame_kind (r : Request) (tag : Nat) : (requestFrame r tag).kind.toNat = requestKind r := by
  cases r <;> rfl

@[simp] theorem leBytes_length (w n : Nat) : (leBytes w n).length = w := by
  induction w generalizing n with
  | zero => rfl
  | succ w ih => simp [leBytes, ih]

/-- A request whose fields fit spells a frame that the link checks of kind and body length pass. -/
theorem requestFrame_reads (r : Request) (tag : Nat) (h : r.fits = true) : frameRequest (requestFrame r tag) ≠ none := by
  cases r with
  | finish id g o image =>
    cases image with
    | none => simp [frameRequest, requestFrame, requestBody, requestKind, readRequest]
    | some b =>
      have hb : b.length = 4096 := by simp [Request.fits] at h; exact h.2
      simp [frameRequest, requestFrame, requestBody, requestKind, readRequest, hb]
  | _ => simp [frameRequest, requestFrame, requestBody, requestKind, readRequest]

/-- The link checks pass a request of a link that takes its kind. -/
theorem linkRefusal_listed (l : Link) (r : Request) (tag : Nat) (h : r.fits = true) (hl : l ∈ kindLinks (requestKind r)) :
    linkRefusal l (listed r tag) = none := by
  have hk : kindLinks (requestKind r) ≠ [] := List.ne_nil_of_mem hl
  simp [linkRefusal, listed, hk, hl, requestFrame_reads r tag h]

/-! ## A request command on a ready link -/

theorem State.ready_iff {s : State} {l : Link} {tag : Nat} :
    s.ready l tag = true ↔ s.awake = true ∧ s.supply.rstn = .high ∧ s.nextRequest l = none ∧
      (s.port l).accepted.length < Config.linkCredits ∧ tag ∉ (s.port l).tagsInUse := by
  simp [State.ready, and_assoc]

theorem State.awake_iff {s : State} :
    s.awake = true ↔ s.supply.heldLowest = none ∧ s.supply.mode ≠ .retain ∧ s.supply.mode ≠ .hibernate := by
  simp [State.awake, and_assoc]

/-- On a ready link the frame of a request is accepted. -/
theorem State.present_ready {s : State} {l : Link} {r : Request} {tag : Nat} (hs : s.ready l tag = true) (ht : tag < 16)
    (hf : r.fits = true) (hl : l ∈ kindLinks (requestKind r)) : s.present l (requestFrame r tag) = s.listing l r tag := by
  obtain ⟨ha, hr, hn, hc, hu⟩ := State.ready_iff.mp hs
  obtain ⟨hh, h1, h2⟩ := State.awake_iff.mp ha
  have hd := State.nextRequest_none.mp hn
  have hstart : s.frameStart = s := by
    unfold State.frameStart
    split
    · exact absurd ‹_› h1
    · exact absurd ‹_› h2
    · rfl
    · rfl
    · rfl
  have hrec : s.receives = true := by simp [State.receives, hh, hr]
  have hlist : answerRefusedList l ((s.port l).accepted ++ [listed r tag]) =
      ((s.port l).accepted ++ [listed r tag], []) := by
    rw [answerRefusedList_deferred _ _ _ hd, answerRefusedList_good _ _ _ rfl (linkRefusal_listed l r tag hf hl)]
  have hdup : decide (frameTag (requestFrame r tag) ∈ (s.port l).tagsInUse) = false := by
    simp [frameTag_requestFrame r ht, hu]
  unfold State.present
  rw [hn]
  simp only [Option.isNone_none, if_true]
  unfold State.arrive State.accept
  simp only [hrec, hstart, hc, if_true, hdup]
  unfold State.answerRefused
  have he : ({ frame := requestFrame r tag, duplicate := false, standing := .accepted } : Accepted) = listed r tag := rfl
  simp only [he, State.setPort_port, hlist, List.append_nil]
  apply State.eq_of_fields
  simp [State.listing]

/-- The next request of the listing is the one listed. -/
theorem State.listing_next {s : State} {l : Link} (r : Request) (tag : Nat) (hn : s.nextRequest l = none) :
    (s.listing l r tag).nextRequest l = some (listed r tag) := by
  have h := State.nextRequest_none.mp hn
  simp only [State.nextRequest, State.listing, State.setPort_port, List.find?_append]
  rw [List.find?_eq_none.mpr (by simpa using h)]
  simp [listed]

/-- A request command on a ready link is taken at once: refused by the service-state table, or served by its block,
and the step settles. -/
theorem State.request_ready {s : State} {l : Link} {r : Request} {tag : Nat} (serve : State → State × Answer)
    (hs : s.ready l tag = true) (ht : tag < 16) (hf : r.fits = true) (hl : l ∈ kindLinks (requestKind r)) :
    s.request l tag r serve = ((s.listing l r tag).serveTaken l (listed r tag) r serve).settle := by
  obtain ⟨ha, hr, hn, -, -⟩ := State.ready_iff.mp hs
  have haw : (s.listing l r tag).awake = true := by
    rw [State.awake_iff] at ha ⊢; simpa using ha
  unfold State.request
  rw [State.present_ready hs ht hf hl]
  have ht' : (s.listing l r tag).taking l (requestFrame r tag) = some (listed r tag) := by
    unfold State.taking
    rw [State.listing_next r tag hn]
    simp [haw, hr, sameFrame, listed]
  simp only [ht']

/-- The reply to the request listed leaves, and the list is as it was. -/
theorem State.answerTaken_listed {t : State} {l : Link} {r : Request} {tag : Nat} {old : List Accepted}
    (hold : ∀ a ∈ old, a.standing ≠ .accepted) (hacc : (t.port l).accepted = old ++ [listed r tag]) (ht : tag < 16)
    (c : ReplyCode) (b : ReplyBody) :
    t.answerTaken l (listed r tag) c b =
      (t.setPort l { t.port l with accepted := old }).send (replyTo r l tag c b) := by
  have hrep : replaceFirst (fun _ => []) (t.port l).accepted = old := by
    rw [hacc, replaceFirst_deferred _ _ _ hold rfl, List.append_nil]
  have hlist : answerRefusedList l old = (old, []) := by
    simpa [answerRefusedList] using answerRefusedList_deferred l old [] hold
  have he : (listed r tag).reply l c b = replyTo r l tag c b := by
    have hk := frameTag_requestFrame r ht
    simp only [Accepted.reply, listed, replyTo, hk]
    rfl
  unfold State.answerTaken State.answerRefused
  simp only [hrep, he]
  have hp : ((t.setPort l { t.port l with accepted := old }).send (replyTo r l tag c b)).port l =
      { t.port l with accepted := old } := by simp [State.port]
  simp only [hp, hlist, List.append_nil]
  apply State.eq_of_fields
  simp

/-- The request listed keeps its place with its reply deferred. -/
theorem State.deferTaken_listed {t : State} {l : Link} {r : Request} {tag : Nat} {old : List Accepted}
    (hold : ∀ a ∈ old, a.standing ≠ .accepted) (hacc : (t.port l).accepted = old ++ [listed r tag]) (st : Standing)
    (hst : st ≠ .accepted) :
    t.deferTaken l st =
      t.setPort l { t.port l with accepted := old ++ [{ listed r tag with standing := st }] } := by
  have hrep : replaceFirst (fun a => [{ a with standing := st }]) (t.port l).accepted =
      old ++ [{ listed r tag with standing := st }] := by
    rw [hacc, replaceFirst_deferred _ _ _ hold rfl]
  have hlist : answerRefusedList l (old ++ [{ listed r tag with standing := st }]) =
      (old ++ [{ listed r tag with standing := st }], []) := by
    simpa [answerRefusedList] using answerRefusedList_deferred l (old ++ [{ listed r tag with standing := st }]) []
      (by intro a ha; rcases List.mem_append.mp ha with h | h
          · exact hold a h
          · simp at h; subst h; exact hst)
  unfold State.deferTaken State.answerRefused
  simp only [hrep, State.setPort_port, hlist, List.append_nil]
  apply State.eq_of_fields
  simp

/-! ## Words corrected by a request's reads (R189) -/

/-- On a ready link a request is served by its block exactly where the service-state table does not refuse it. -/
theorem State.servesNow_ready {s : State} {l : Link} {r : Request} {tag : Nat} (hs : s.ready l tag = true)
    (ht : tag < 16) (hf : r.fits = true) (hl : l ∈ kindLinks (requestKind r)) :
    s.servesNow l tag r = (serviceRefusal s.recovery.service r).isNone := by
  obtain ⟨ha, hr, hn, -, -⟩ := State.ready_iff.mp hs
  have haw : (s.listing l r tag).awake = true := by
    rw [State.awake_iff] at ha ⊢; simpa using ha
  have ht' : (s.listing l r tag).taking l (requestFrame r tag) = some (listed r tag) := by
    unfold State.taking
    rw [State.listing_next r tag hn]
    simp [haw, hr, sameFrame, listed]
  unfold State.servesNow
  rw [State.present_ready hs ht hf hl]
  simp [ht']

/-- A request command served by its block counts the words that its reads correct, and is otherwise the request. -/
theorem State.requestReading_served {s : State} {l : Link} {r : Request} {tag : Nat} (corrected : Nat)
    (serve : State → State × Answer) (hs : s.ready l tag = true) (ht : tag < 16) (hf : r.fits = true)
    (hl : l ∈ kindLinks (requestKind r)) (hr : serviceRefusal s.recovery.service r = none) :
    s.requestReading l tag r corrected serve = (s.request l tag r serve).afterReads corrected := by
  unfold State.requestReading
  simp only [State.servesNow_ready hs ht hf hl, hr, Option.isNone_none, if_true]
  rfl

/-- A request command that the service-state table refuses reads nothing. -/
theorem State.requestReading_refused {s : State} {l : Link} {r : Request} {tag : Nat} (corrected : Nat)
    (serve : State → State × Answer) (hs : s.ready l tag = true) (ht : tag < 16) (hf : r.fits = true)
    (hl : l ∈ kindLinks (requestKind r)) {c : ReplyCode} (hr : serviceRefusal s.recovery.service r = some c) :
    s.requestReading l tag r corrected serve = s.request l tag r serve := by
  unfold State.requestReading
  simp [State.servesNow_ready hs ht hf hl, hr]

/-! ## The outcomes of a request command on a ready link -/

/-- The service-state table refuses the request: its reply leaves, and nothing else changes. -/
theorem State.request_refused {s : State} {l : Link} {r : Request} {tag : Nat} (serve : State → State × Answer)
    (hs : s.ready l tag = true) (ht : tag < 16) (hf : r.fits = true) (hl : l ∈ kindLinks (requestKind r))
    {c : ReplyCode} (hr : serviceRefusal s.recovery.service r = some c) :
    s.request l tag r serve = (s.send (replyTo r l tag c .empty)).settle := by
  have hold := State.nextRequest_none.mp (State.ready_iff.mp hs).2.2.1
  rw [State.request_ready serve hs ht hf hl]
  unfold State.serveTaken
  simp only [State.listing_frame, hr]
  rw [State.answerTaken_listed hold (by simp [State.port]) ht]
  congr 1
  apply State.eq_of_fields
  simp [State.port, State.listing]
  exact Ports.put_get _ _

/-- The request's block answers with a reply: it leaves, and the list is as it was. -/
theorem State.request_replied {s : State} {l : Link} {r : Request} {tag : Nat} (serve : State → State × Answer)
    (hs : s.ready l tag = true) (ht : tag < 16) (hf : r.fits = true) (hl : l ∈ kindLinks (requestKind r))
    (hr : serviceRefusal s.recovery.service r = none) {t : State} {c : ReplyCode} {b : ReplyBody}
    (hx : serve (s.listing l r tag) = (t, .reply c b))
    (ha : (t.port l).accepted = (s.port l).accepted ++ [listed r tag]) :
    s.request l tag r serve =
      ((t.setPort l { t.port l with accepted := (s.port l).accepted }).send (replyTo r l tag c b)).settle := by
  have hold := State.nextRequest_none.mp (State.ready_iff.mp hs).2.2.1
  rw [State.request_ready serve hs ht hf hl]
  unfold State.serveTaken
  simp only [State.listing_frame, hr, hx]
  unfold State.answer
  simp only []
  rw [State.answerTaken_listed hold ha ht]

/-- The request's block defers its reply: the request keeps its place, its tag and its credit. -/
theorem State.request_deferred {s : State} {l : Link} {r : Request} {tag : Nat} (serve : State → State × Answer)
    (hs : s.ready l tag = true) (ht : tag < 16) (hf : r.fits = true) (hl : l ∈ kindLinks (requestKind r))
    (hr : serviceRefusal s.recovery.service r = none) {t : State} {st : Standing} (hst : st ≠ .accepted)
    (hx : serve (s.listing l r tag) = (t, .defer st))
    (ha : (t.port l).accepted = (s.port l).accepted ++ [listed r tag]) :
    s.request l tag r serve =
      (t.setPort l { t.port l with
        accepted := (s.port l).accepted ++ [{ listed r tag with standing := st }] }).settle := by
  have hold := State.nextRequest_none.mp (State.ready_iff.mp hs).2.2.1
  rw [State.request_ready serve hs ht hf hl]
  unfold State.serveTaken
  simp only [State.listing_frame, hr, hx]
  unfold State.answer
  simp only []
  rw [State.deferTaken_listed hold ha st hst]

end Sys2Proof.Machine
end

