-- ==== Sys2Proof/Laws/Lists.lean ====
section
/-! SUPPORT. Operations that take and answer no request leave every accepted-request list and every notice mask
alone. -/

namespace Sys2Proof.Machine

@[simp] theorem foldl_accepted {β : Type} (f : State → β → State) (l : Link)
    (h : ∀ a b, ((f a b).ports.get l).accepted = (a.ports.get l).accepted) (xs : List β) (s : State) :
    ((xs.foldl f s).ports.get l).accepted = (s.ports.get l).accepted :=
  foldl_fixed (fun t : State => (t.ports.get l).accepted) f h xs s

@[simp] theorem foldl_mask {β : Type} (f : State → β → State) (l : Link)
    (h : ∀ a b, ((f a b).ports.get l).mask = (a.ports.get l).mask) (xs : List β) (s : State) :
    ((xs.foldl f s).ports.get l).mask = (s.ports.get l).mask :=
  foldl_fixed (fun t : State => (t.ports.get l).mask) f h xs s

@[simp] theorem State.judgePort_lists (s : State) (x : Link) (l : Link) :
    ((State.judgePort s x).ports.get l).accepted = (s.ports.get l).accepted ∧
    ((State.judgePort s x).ports.get l).mask = (s.ports.get l).mask := by
  unfold State.judgePort
  split
  · cases x <;> cases l <;> exact ⟨rfl, rfl⟩
  · exact ⟨rfl, rfl⟩

@[simp] theorem State.raise_lists (s : State) (x : Link) (y : Notice) (l : Link) :
    ((State.raise s x y).ports.get l).accepted = (s.ports.get l).accepted ∧
    ((State.raise s x y).ports.get l).mask = (s.ports.get l).mask := by
  simp only [State.raise, State.judgePort_lists]
  cases x <;> cases l <;> exact ⟨rfl, rfl⟩

@[simp] theorem State.raiseAll_lists (s : State) (x : Notice) (l : Link) :
    ((State.raiseAll s x).ports.get l).accepted = (s.ports.get l).accepted ∧
    ((State.raiseAll s x).ports.get l).mask = (s.ports.get l).mask := by
  simp [State.raiseAll]

@[simp] theorem State.judgePorts_lists (s : State) (l : Link) :
    ((State.judgePorts s).ports.get l).accepted = (s.ports.get l).accepted ∧
    ((State.judgePorts s).ports.get l).mask = (s.ports.get l).mask := by
  simp [State.judgePorts]

@[simp] theorem State.clearOrdersReady_lists (s : State) (l : Link) :
    ((State.clearOrdersReady s).ports.get l).accepted = (s.ports.get l).accepted ∧
    ((State.clearOrdersReady s).ports.get l).mask = (s.ports.get l).mask := by
  cases l <;> exact ⟨rfl, rfl⟩

@[simp] theorem State.judgeSpinWanted_lists (s : State) (l : Link) :
    ((State.judgeSpinWanted s).ports.get l).accepted = (s.ports.get l).accepted ∧
    ((State.judgeSpinWanted s).ports.get l).mask = (s.ports.get l).mask := by
  simp only [State.judgeSpinWanted]
  repeat' split
  all_goals simp

@[simp] theorem State.readyF_lists (s : State) (l : Link) :
    ((State.readyF s).ports.get l).accepted = (s.ports.get l).accepted ∧
    ((State.readyF s).ports.get l).mask = (s.ports.get l).mask := by
  simp only [State.readyF]
  repeat' split
  all_goals simp

@[simp] theorem State.readyD_lists (s : State) (l : Link) :
    ((State.readyD s).ports.get l).accepted = (s.ports.get l).accepted ∧
    ((State.readyD s).ports.get l).mask = (s.ports.get l).mask := by
  simp only [State.readyD]
  repeat' split
  all_goals simp

@[simp] theorem State.joinD_lists (s : State) (x : Order) (l : Link) :
    ((State.joinD s x).ports.get l).accepted = (s.ports.get l).accepted ∧
    ((State.joinD s x).ports.get l).mask = (s.ports.get l).mask := by
  simp [State.joinD]

@[simp] theorem State.joinMig_lists (s : State) (x : Order) (l : Link) :
    ((State.joinMig s x).ports.get l).accepted = (s.ports.get l).accepted ∧
    ((State.joinMig s x).ports.get l).mask = (s.ports.get l).mask := by
  simp [State.joinMig]

theorem State.makePageOrder_lists {s : State} {i : Nat} {b : OrderBody} {h r : Bool} {t : State} {id : Nat}
    (e : s.makePageOrder i b h r = some (t, id)) (l : Link) :
    (t.ports.get l).accepted = (s.ports.get l).accepted ∧ (t.ports.get l).mask = (s.ports.get l).mask := by
  unfold State.makePageOrder at e
  split at e
  · cases e
  · split at e <;> cases e
    cases r <;> simp

@[simp] theorem State.giveOrder_lists (s : State) (x : Nat) (y : Bool) (l : Link) :
    ((State.giveOrder s x y).ports.get l).accepted = (s.ports.get l).accepted ∧
    ((State.giveOrder s x y).ports.get l).mask = (s.ports.get l).mask := by
  unfold State.giveOrder
  split
  · simp
  · split
    · simp
    · dsimp only
      split
      · simp
      · rename_i e
        simp [State.makePageOrder_lists e]

@[simp] theorem State.giveOrders_lists (s : State) (l : Link) :
    ((State.giveOrders s).ports.get l).accepted = (s.ports.get l).accepted ∧
    ((State.giveOrders s).ports.get l).mask = (s.ports.get l).mask := by
  simp [State.giveOrders]

@[simp] theorem State.makeImage_lists (s : State) (x : Bool) (l : Link) :
    ((State.makeImage s x).ports.get l).accepted = (s.ports.get l).accepted ∧
    ((State.makeImage s x).ports.get l).mask = (s.ports.get l).mask := by
  simp only [State.makeImage]
  repeat' split
  all_goals simp

@[simp] theorem State.emit_lists (s : State) (x : Bool) (l : Link) :
    ((State.emit s x).ports.get l).accepted = (s.ports.get l).accepted ∧
    ((State.emit s x).ports.get l).mask = (s.ports.get l).mask := by
  simp only [State.emit]
  repeat' split
  all_goals simp

@[simp] theorem State.tryFinal_lists (s : State) (l : Link) :
    ((State.tryFinal s).ports.get l).accepted = (s.ports.get l).accepted ∧
    ((State.tryFinal s).ports.get l).mask = (s.ports.get l).mask := by
  simp only [State.tryFinal]
  repeat' split
  all_goals simp

@[simp] theorem State.tryPending_lists (s : State) (l : Link) :
    ((State.tryPending s).ports.get l).accepted = (s.ports.get l).accepted ∧
    ((State.tryPending s).ports.get l).mask = (s.ports.get l).mask := by
  simp only [State.tryPending]
  repeat' split
  all_goals simp

@[simp] theorem State.journalAdvance_lists (s : State) (l : Link) :
    ((State.journalAdvance s).ports.get l).accepted = (s.ports.get l).accepted ∧
    ((State.journalAdvance s).ports.get l).mask = (s.ports.get l).mask := by
  simp [State.journalAdvance]

@[simp] theorem State.prepare_lists (s : State) (x : Bool) (l : Link) :
    ((State.prepare s x).ports.get l).accepted = (s.ports.get l).accepted ∧
    ((State.prepare s x).ports.get l).mask = (s.ports.get l).mask := by
  simp only [State.prepare]
  repeat' split
  all_goals simp

@[simp] theorem State.offer_lists (s : State) (x : Bool) (y : List Entry) (l : Link) :
    ((State.offer s x y).1.ports.get l).accepted = (s.ports.get l).accepted ∧
    ((State.offer s x y).1.ports.get l).mask = (s.ports.get l).mask := by
  simp only [State.offer]
  repeat' split
  all_goals simp

@[simp] theorem Change.commit_lists (c : Change) (b : Bool) (s : State) (l : Link)
    (h : c.st.ports = s.ports) : ((c.commit b s).1.ports.get l).accepted = (s.ports.get l).accepted ∧
    ((c.commit b s).1.ports.get l).mask = (s.ports.get l).mask := by
  unfold Change.commit; split <;> simp [h]

@[simp] theorem State.attemptRelease_lists (s : State) (x : Nat) (l : Link) :
    ((State.attemptRelease s x).ports.get l).accepted = (s.ports.get l).accepted ∧
    ((State.attemptRelease s x).ports.get l).mask = (s.ports.get l).mask := by
  simp only [State.attemptRelease]
  repeat' split
  all_goals simp

@[simp] theorem State.failJob_lists (s : State) (x : Job) (l : Link) :
    ((State.failJob s x).ports.get l).accepted = (s.ports.get l).accepted ∧
    ((State.failJob s x).ports.get l).mask = (s.ports.get l).mask := by
  simp only [State.failJob]
  repeat' split
  all_goals simp

@[simp] theorem State.tryComplete_lists (s : State) (x : Job) (l : Link) :
    ((State.tryComplete s x).1.ports.get l).accepted = (s.ports.get l).accepted ∧
    ((State.tryComplete s x).1.ports.get l).mask = (s.ports.get l).mask := by
  simp only [State.tryComplete]
  repeat' split
  all_goals simp

@[simp] theorem State.enterServing_lists (s : State) (l : Link) :
    ((State.enterServing s).ports.get l).accepted = (s.ports.get l).accepted ∧
    ((State.enterServing s).ports.get l).mask = (s.ports.get l).mask := by
  simp [State.enterServing]

@[simp] theorem State.startWarning_lists (s : State) (l : Link) :
    ((State.startWarning s).ports.get l).accepted = (s.ports.get l).accepted ∧
    ((State.startWarning s).ports.get l).mask = (s.ports.get l).mask := by
  unfold State.startWarning
  dsimp only
  split <;> simp

@[simp] theorem State.judgeWarning_lists (s : State) (l : Link) :
    ((State.judgeWarning s).ports.get l).accepted = (s.ports.get l).accepted ∧
    ((State.judgeWarning s).ports.get l).mask = (s.ports.get l).mask := by
  simp only [State.judgeWarning]
  repeat' split
  all_goals simp

@[simp] theorem State.clearWarning_lists (s : State) (l : Link) :
    ((State.clearWarning s).ports.get l).accepted = (s.ports.get l).accepted ∧
    ((State.clearWarning s).ports.get l).mask = (s.ports.get l).mask := by
  simp [State.clearWarning]

@[simp] theorem State.makeRead_lists (s : State) (x : Reading) (y : Reading → Phase) (l : Link) :
    ((State.makeRead s x y).ports.get l).accepted = (s.ports.get l).accepted ∧
    ((State.makeRead s x y).ports.get l).mask = (s.ports.get l).mask := by
  unfold State.makeRead
  split
  · simp
  · generalize e : State.makePageOrder s _ _ _ _ = o
    cases o with
    | none => simp
    | some v => obtain ⟨t, id⟩ := v; simp [State.makePageOrder_lists e]

@[simp] theorem State.recoveryAdvance_lists (s : State) (l : Link) :
    ((State.recoveryAdvance s).ports.get l).accepted = (s.ports.get l).accepted ∧
    ((State.recoveryAdvance s).ports.get l).mask = (s.ports.get l).mask := by
  unfold State.recoveryAdvance
  split
  · simp
  · simp
  all_goals
    split
    · simp
    · split
      · simp
      · split
        · simp
        · rename_i e
          simp [State.makePageOrder_lists e]

@[simp] theorem State.advance_lists (s : State) (l : Link) :
    ((State.advance s).ports.get l).accepted = (s.ports.get l).accepted ∧
    ((State.advance s).ports.get l).mask = (s.ports.get l).mask := by
  simp [State.advance]

@[simp] theorem State.startHunt_lists (s : State) (l : Link) :
    ((State.startHunt s).ports.get l).accepted = (s.ports.get l).accepted ∧
    ((State.startHunt s).ports.get l).mask = (s.ports.get l).mask := by
  simp [State.startHunt]

@[simp] theorem State.replaySet_lists (s : State) (x : Nat) (y : ExtentBody) (z : Bool) (l : Link) :
    ((State.replaySet s x y z).ports.get l).accepted = (s.ports.get l).accepted ∧
    ((State.replaySet s x y z).ports.get l).mask = (s.ports.get l).mask := by
  simp only [State.replaySet]
  repeat' split
  all_goals simp

theorem replayEntry_lists (psn : Nat) (x : State × Replay) (e : Entry) (l : Link) :
    ((replayEntry psn x e).1.ports.get l).accepted = (x.1.ports.get l).accepted ∧
    ((replayEntry psn x e).1.ports.get l).mask = (x.1.ports.get l).mask := by
  cases e <;> simp [replayEntry]

theorem replayEntries_lists (psn : Nat) (es : List Entry) (x : State × Replay) (l : Link) :
    ((es.foldl (replayEntry psn) x).1.ports.get l).accepted = (x.1.ports.get l).accepted ∧
    ((es.foldl (replayEntry psn) x).1.ports.get l).mask = (x.1.ports.get l).mask :=
  ⟨foldl_fixed (fun x => (x.1.ports.get l).accepted) _ (fun a b => (replayEntry_lists psn a b l).1) es x,
    foldl_fixed (fun x => (x.1.ports.get l).mask) _ (fun a b => (replayEntry_lists psn a b l).2) es x⟩

@[simp] theorem State.endReplay_lists (s : State) (x : Replay) (y : Bool) (l : Link) :
    ((State.endReplay s x y).ports.get l).accepted = (s.ports.get l).accepted ∧
    ((State.endReplay s x y).ports.get l).mask = (s.ports.get l).mask := by
  simp only [State.endReplay]
  repeat' split
  all_goals simp

@[simp] theorem State.startReplay_lists (s : State) (x : Hunt) (y : PageHeader) (l : Link) :
    ((State.startReplay s x y).ports.get l).accepted = (s.ports.get l).accepted ∧
    ((State.startReplay s x y).ports.get l).mask = (s.ports.get l).mask := by
  simp only [State.startReplay]
  repeat' split
  all_goals simp

@[simp] theorem State.huntNext_lists (s : State) (x : Hunt) (l : Link) :
    ((State.huntNext s x).ports.get l).accepted = (s.ports.get l).accepted ∧
    ((State.huntNext s x).ports.get l).mask = (s.ports.get l).mask := by
  simp only [State.huntNext]
  repeat' split
  all_goals simp

@[simp] theorem State.huntStep_lists (s : State) (x : Hunt) (y : Option Page) (l : Link) :
    ((State.huntStep s x y).ports.get l).accepted = (s.ports.get l).accepted ∧
    ((State.huntStep s x y).ports.get l).mask = (s.ports.get l).mask := by
  simp only [State.huntStep]
  repeat' split
  all_goals simp

@[simp] theorem State.replayStep_lists (s : State) (x : Replay) (y : Option Page) (l : Link) :
    ((State.replayStep s x y).ports.get l).accepted = (s.ports.get l).accepted ∧
    ((State.replayStep s x y).ports.get l).mask = (s.ports.get l).mask := by
  unfold State.replayStep
  cases y with
  | none => simp
  | some p =>
    dsimp only
    split
    · split
      · simp [replayEntries_lists]
      · simp [replayEntries_lists]
    · simp

@[simp] theorem State.pageRead_lists (s : State) (x : Option Page) (l : Link) :
    ((State.pageRead s x).ports.get l).accepted = (s.ports.get l).accepted ∧
    ((State.pageRead s x).ports.get l).mask = (s.ports.get l).mask := by
  simp only [State.pageRead]
  repeat' split
  all_goals simp

@[simp] theorem State.finishRead_lists (s : State) (x : Order) (y : FinishOutcome) (z : Option (List Byte)) (l : Link) :
    ((State.finishRead s x y z).ports.get l).accepted = (s.ports.get l).accepted ∧
    ((State.finishRead s x y z).ports.get l).mask = (s.ports.get l).mask := by
  simp only [State.finishRead]
  repeat' split
  all_goals simp

@[simp] theorem State.completePass_lists (s : State) (l : Link) :
    ((State.completePass s).ports.get l).accepted = (s.ports.get l).accepted ∧
    ((State.completePass s).ports.get l).mask = (s.ports.get l).mask := by
  simp only [State.completePass]
  repeat' split
  all_goals simp

@[simp] theorem State.judgeRetired_lists (s x : State) (l : Link) :
    ((State.judgeRetired s x).ports.get l).accepted = (s.ports.get l).accepted ∧
    ((State.judgeRetired s x).ports.get l).mask = (s.ports.get l).mask := by
  simp only [State.judgeRetired]
  split <;> simp

@[simp] theorem State.resumeDone_lists (s : State) (l : Link) :
    ((State.resumeDone s).ports.get l).accepted = (s.ports.get l).accepted ∧
    ((State.resumeDone s).ports.get l).mask = (s.ports.get l).mask := by
  simp only [State.resumeDone]
  repeat' split
  all_goals simp

@[simp] theorem State.makeChange_lists (s : State) (c : Change) (l : Link)
    (h : c.st.ports = s.ports) : ((s.makeChange c).1.ports.get l).accepted = (s.ports.get l).accepted ∧
    ((s.makeChange c).1.ports.get l).mask = (s.ports.get l).mask := by
  unfold State.makeChange
  repeat' split
  all_goals simp [h, Change.commit_lists c false s l h]

@[simp] theorem State.spinNeeded_lists (s : State) (x : SpinReason) (l : Link) :
    ((State.spinNeeded s x).1.ports.get l).accepted = (s.ports.get l).accepted ∧
    ((State.spinNeeded s x).1.ports.get l).mask = (s.ports.get l).mask := by
  simp [State.spinNeeded]

@[simp] theorem State.openRouted_lists (s : State) (x : Nat) (y : Nat) (z : Nat) (l : Link) :
    ((State.openRouted s x y z).1.ports.get l).accepted = (s.ports.get l).accepted ∧
    ((State.openRouted s x y z).1.ports.get l).mask = (s.ports.get l).mask := by
  simp only [State.openRouted]
  repeat' split
  all_goals simp

@[simp] theorem State.serveWriteOpen_lists (s : State) (x : Nat) (y : Nat) (l : Link) :
    ((State.serveWriteOpen s x y).1.ports.get l).accepted = (s.ports.get l).accepted ∧
    ((State.serveWriteOpen s x y).1.ports.get l).mask = (s.ports.get l).mask := by
  simp only [State.serveWriteOpen]
  repeat' split
  all_goals simp

@[simp] theorem State.releaseAtClose_lists (x : OpenWrite) (y : Bool) (s : State) (z : Nat) (l : Link) :
    ((State.releaseAtClose x y s z).ports.get l).accepted = (s.ports.get l).accepted ∧
    ((State.releaseAtClose x y s z).ports.get l).mask = (s.ports.get l).mask := by
  simp only [State.releaseAtClose]
  repeat' split
  all_goals simp

@[simp] theorem State.closeWrite_lists (s : State) (x : Nat) (y : OpenWrite) (z : Bool) (l : Link) :
    ((State.closeWrite s x y z).1.ports.get l).accepted = (s.ports.get l).accepted ∧
    ((State.closeWrite s x y z).1.ports.get l).mask = (s.ports.get l).mask := by
  simp [State.closeWrite]

@[simp] theorem State.serveWriteClose_lists (s : State) (x : Nat) (y : Nat) (z : Nat) (l : Link) :
    ((State.serveWriteClose s x y z).1.ports.get l).accepted = (s.ports.get l).accepted ∧
    ((State.serveWriteClose s x y z).1.ports.get l).mask = (s.ports.get l).mask := by
  simp only [State.serveWriteClose]
  repeat' split
  all_goals simp

@[simp] theorem State.orphan_lists (s : State) (x : Nat) (y : OpenWrite) (l : Link) :
    ((State.orphan s x y).ports.get l).accepted = (s.ports.get l).accepted ∧
    ((State.orphan s x y).ports.get l).mask = (s.ports.get l).mask := by
  simp [State.orphan]

@[simp] theorem State.timeOut_lists (s : State) (x : Nat) (l : Link) :
    ((State.timeOut s x).ports.get l).accepted = (s.ports.get l).accepted ∧
    ((State.timeOut s x).ports.get l).mask = (s.ports.get l).mask := by
  simp only [State.timeOut]
  repeat' split
  all_goals simp

@[simp] theorem State.heldClose_lists (s : State) (x : Nat) (l : Link) :
    ((State.heldClose s x).ports.get l).accepted = (s.ports.get l).accepted ∧
    ((State.heldClose s x).ports.get l).mask = (s.ports.get l).mask := by
  simp only [State.heldClose]
  repeat' split
  all_goals simp

@[simp] theorem State.serveDiscard_lists (s : State) (x : Nat) (y : Nat) (l : Link) :
    ((State.serveDiscard s x y).1.ports.get l).accepted = (s.ports.get l).accepted ∧
    ((State.serveDiscard s x y).1.ports.get l).mask = (s.ports.get l).mask := by
  simp only [State.serveDiscard]
  repeat' split
  all_goals simp

@[simp] theorem State.servePin_lists (s : State) (x : Nat) (y : Nat) (l : Link) :
    ((State.servePin s x y).1.ports.get l).accepted = (s.ports.get l).accepted ∧
    ((State.servePin s x y).1.ports.get l).mask = (s.ports.get l).mask := by
  simp only [State.servePin]
  repeat' split
  all_goals simp

@[simp] theorem State.afterUnpin_lists (s : State) (x : Nat) (l : Link) :
    ((State.afterUnpin s x).ports.get l).accepted = (s.ports.get l).accepted ∧
    ((State.afterUnpin s x).ports.get l).mask = (s.ports.get l).mask := by
  simp only [State.afterUnpin]
  repeat' split
  all_goals simp

@[simp] theorem State.serveUnpin_lists (s : State) (x : Nat) (y : Nat) (l : Link) :
    ((State.serveUnpin s x y).1.ports.get l).accepted = (s.ports.get l).accepted ∧
    ((State.serveUnpin s x y).1.ports.get l).mask = (s.ports.get l).mask := by
  simp only [State.serveUnpin]
  repeat' split
  all_goals simp

@[simp] theorem State.serveSync_lists (s : State) (l : Link) :
    ((State.serveSync s).1.ports.get l).accepted = (s.ports.get l).accepted ∧
    ((State.serveSync s).1.ports.get l).mask = (s.ports.get l).mask := by
  simp only [State.serveSync]
  repeat' split
  all_goals simp

@[simp] theorem State.serveRetire_lists (s : State) (x : Nat) (l : Link) :
    ((State.serveRetire s x).1.ports.get l).accepted = (s.ports.get l).accepted ∧
    ((State.serveRetire s x).1.ports.get l).mask = (s.ports.get l).mask := by
  unfold State.serveRetire
  simp only [State.refuse]
  split
  · simp
  · split
    · simp
    · split
      · simp
      · split
        · simp
        · rename_i e
          split <;> simp [State.retireChange_st e]

@[simp] theorem State.recordSpindle_lists (s : State) (x : Spindle) (l : Link) :
    ((State.recordSpindle s x).ports.get l).accepted = (s.ports.get l).accepted ∧
    ((State.recordSpindle s x).ports.get l).mask = (s.ports.get l).mask := by
  simp only [State.recordSpindle]
  repeat' split
  all_goals simp

@[simp] theorem State.serveSpindle_lists (s : State) (x : Nat) (l : Link) :
    ((State.serveSpindle s x).1.ports.get l).accepted = (s.ports.get l).accepted ∧
    ((State.serveSpindle s x).1.ports.get l).mask = (s.ports.get l).mask := by
  simp only [State.serveSpindle]
  repeat' split
  all_goals simp

@[simp] theorem State.startStageTwo_lists (s : State) (x : Job) (l : Link) :
    ((State.startStageTwo s x).ports.get l).accepted = (s.ports.get l).accepted ∧
    ((State.startStageTwo s x).ports.get l).mask = (s.ports.get l).mask := by
  simp only [State.startStageTwo]
  repeat' split
  all_goals simp

@[simp] theorem State.stageDone_lists (s : State) (x : Job) (l : Link) :
    ((State.stageDone s x).ports.get l).accepted = (s.ports.get l).accepted ∧
    ((State.stageDone s x).ports.get l).mask = (s.ports.get l).mask := by
  simp only [State.stageDone]
  repeat' split
  all_goals simp

@[simp] theorem State.stageAborted_lists (s : State) (x : Link) (y : Order) (z : Job) (l : Link) :
    ((State.stageAborted s x y z).ports.get l).accepted = (s.ports.get l).accepted ∧
    ((State.stageAborted s x y z).ports.get l).mask = (s.ports.get l).mask := by
  simp only [State.stageAborted]
  repeat' split
  all_goals simp

@[simp] theorem State.finishJob_lists (s : State) (x : Link) (y : Order) (z : FinishOutcome) (l : Link) :
    ((State.finishJob s x y z).ports.get l).accepted = (s.ports.get l).accepted ∧
    ((State.finishJob s x y z).ports.get l).mask = (s.ports.get l).mask := by
  simp only [State.finishJob]
  repeat' split
  all_goals simp

@[simp] theorem State.liftFence_lists (s : State) (x : Link) (y : Nat) (z : Nat) (l : Link) :
    ((State.liftFence s x y z).ports.get l).accepted = (s.ports.get l).accepted ∧
    ((State.liftFence s x y z).ports.get l).mask = (s.ports.get l).mask := by
  simp [State.liftFence]

@[simp] theorem State.serveAttach_lists (s : State) (x : Nat) (l : Link) :
    ((State.serveAttach s x).1.ports.get l).accepted = (s.ports.get l).accepted ∧
    ((State.serveAttach s x).1.ports.get l).mask = (s.ports.get l).mask := by
  simp only [State.serveAttach]
  repeat' split
  all_goals simp

@[simp] theorem State.beginFormat_lists (s : State) (x : Nat) (y : Nat) (l : Link) :
    ((State.beginFormat s x y).ports.get l).accepted = (s.ports.get l).accepted ∧
    ((State.beginFormat s x y).ports.get l).mask = (s.ports.get l).mask := by
  simp [State.beginFormat]

@[simp] theorem State.serveFormat_lists (s : State) (x : Nat) (y : Nat) (l : Link) :
    ((State.serveFormat s x y).1.ports.get l).accepted = (s.ports.get l).accepted ∧
    ((State.serveFormat s x y).1.ports.get l).mask = (s.ports.get l).mask := by
  simp only [State.serveFormat]
  repeat' split
  all_goals simp

@[simp] theorem State.withdrawNext_lists (s : State) (l : Link) :
    ((State.withdrawNext s).ports.get l).accepted = (s.ports.get l).accepted ∧
    ((State.withdrawNext s).ports.get l).mask = (s.ports.get l).mask := by
  simp only [State.withdrawNext]
  repeat' split
  all_goals simp

@[simp] theorem State.store_accepted (s : State) (x : Link) (y : Param) (z : Nat) (l : Link) :
    ((s.store x y z).ports.get l).accepted = (s.ports.get l).accepted := by
  cases y <;> try rfl
  cases x <;> cases l <;> rfl

@[simp] theorem State.lingerExpire_lists (s : State) (l : Link) :
    ((State.lingerExpire s).ports.get l).accepted = (s.ports.get l).accepted ∧
    ((State.lingerExpire s).ports.get l).mask = (s.ports.get l).mask := by
  simp [State.lingerExpire]

@[simp] theorem State.timeOutDue_lists (s : State) (x : Nat) (l : Link) :
    ((State.timeOutDue s x).ports.get l).accepted = (s.ports.get l).accepted ∧
    ((State.timeOutDue s x).ports.get l).mask = (s.ports.get l).mask := by
  simp only [State.timeOutDue]
  repeat' split
  all_goals simp

@[simp] theorem State.timeOutAll_lists (s : State) (l : Link) :
    ((State.timeOutAll s).ports.get l).accepted = (s.ports.get l).accepted ∧
    ((State.timeOutAll s).ports.get l).mask = (s.ports.get l).mask := by
  simp [State.timeOutAll]

@[simp] theorem State.paramEffect_lists (s : State) (x : Link) (y : Param) (l : Link) :
    ((State.paramEffect s x y).ports.get l).accepted = (s.ports.get l).accepted ∧
    ((State.paramEffect s x y).ports.get l).mask = (s.ports.get l).mask := by
  unfold State.paramEffect
  dsimp only
  repeat' split
  all_goals simp

@[simp] theorem State.serveSetParam_accepted (s : State) (x : Link) (y z : Nat) (l : Link) :
    ((s.serveSetParam x y z).1.ports.get l).accepted = (s.ports.get l).accepted := by
  unfold State.serveSetParam
  split
  · simp [State.refuse]
  · dsimp only
    split <;> simp [State.refuse]

@[simp] theorem State.serveGetNotice_lists (s : State) (x : Link) (l : Link) :
    ((State.serveGetNotice s x).1.ports.get l).accepted = (s.ports.get l).accepted ∧
    ((State.serveGetNotice s x).1.ports.get l).mask = (s.ports.get l).mask := by
  unfold State.serveGetNotice
  dsimp only
  split
  · simp
  · simp
    cases x <;> cases l <;> exact ⟨rfl, rfl⟩

@[simp] theorem State.startPromotion_lists (s : State) (x : Rec) (y : Nat) (l : Link) :
    ((State.startPromotion s x y).ports.get l).accepted = (s.ports.get l).accepted ∧
    ((State.startPromotion s x y).ports.get l).mask = (s.ports.get l).mask := by
  simp [State.startPromotion]

@[simp] theorem State.promoteHead_lists (s : State) (l : Link) :
    ((State.promoteHead s).ports.get l).accepted = (s.ports.get l).accepted ∧
    ((State.promoteHead s).ports.get l).mask = (s.ports.get l).mask := by
  simp only [State.promoteHead]
  repeat' split
  all_goals simp

@[simp] theorem State.releaseFor_lists (s : State) (x : Rec) (l : Link) :
    ((State.releaseFor s x).ports.get l).accepted = (s.ports.get l).accepted ∧
    ((State.releaseFor s x).ports.get l).mask = (s.ports.get l).mask := by
  simp only [State.releaseFor]
  repeat' split
  all_goals simp

@[simp] theorem State.startWriteback_lists (s : State) (x : Rec) (y : Nat) (l : Link) :
    ((State.startWriteback s x y).ports.get l).accepted = (s.ports.get l).accepted ∧
    ((State.startWriteback s x y).ports.get l).mask = (s.ports.get l).mask := by
  simp [State.startWriteback]

@[simp] theorem State.writeBackChosen_lists (s : State) (l : Link) :
    ((State.writeBackChosen s).ports.get l).accepted = (s.ports.get l).accepted ∧
    ((State.writeBackChosen s).ports.get l).mask = (s.ports.get l).mask := by
  simp only [State.writeBackChosen]
  repeat' split
  all_goals simp

@[simp] theorem State.visit_lists (s : State) (x : Nat) (l : Link) :
    ((State.visit s x).ports.get l).accepted = (s.ports.get l).accepted ∧
    ((State.visit s x).ports.get l).mask = (s.ports.get l).mask := by
  simp only [State.visit]
  repeat' split
  all_goals simp

@[simp] theorem State.beginPass_lists (s : State) (l : Link) :
    ((State.beginPass s).ports.get l).accepted = (s.ports.get l).accepted ∧
    ((State.beginPass s).ports.get l).mask = (s.ports.get l).mask := by
  simp only [State.beginPass]
  repeat' split
  all_goals simp

@[simp] theorem State.passVisit_lists (s : State) (x : Nat) (l : Link) :
    ((State.passVisit s x).ports.get l).accepted = (s.ports.get l).accepted ∧
    ((State.passVisit s x).ports.get l).mask = (s.ports.get l).mask := by
  simp only [State.passVisit]
  repeat' split
  all_goals simp

@[simp] theorem State.recordRetired_lists (s : State) (x : List Nat) (l : Link) :
    ((State.recordRetired s x).ports.get l).accepted = (s.ports.get l).accepted ∧
    ((State.recordRetired s x).ports.get l).mask = (s.ports.get l).mask := by
  simp only [State.recordRetired]
  repeat' split
  all_goals simp

@[simp] theorem State.endPass_lists (s : State) (l : Link) :
    ((State.endPass s).ports.get l).accepted = (s.ports.get l).accepted ∧
    ((State.endPass s).ports.get l).mask = (s.ports.get l).mask := by
  simp only [State.endPass]
  repeat' split
  all_goals simp

@[simp] theorem State.holdReset_lists (s : State) (x : Nat) (l : Link) :
    ((State.holdReset s x).ports.get l).accepted = (s.ports.get l).accepted ∧
    ((State.holdReset s x).ports.get l).mask = (s.ports.get l).mask := by
  cases l <;> exact ⟨rfl, rfl⟩

end Sys2Proof.Machine
end

