-- ==== Sys2Proof/Laws/Journal.lean ====
section
/-! SUPPORT. What an offer to the journal can do: it is taken exactly when the journal can take the entries, and the
last JSN rises by one for each entry taken. -/

namespace Sys2Proof.Machine

/-! ## JSNs -/

theorem jsnAdd_zero (j : Nat) : jsnAdd j 0 = j := rfl

theorem jsnAdd_le {j : Nat} (h : j ≤ Config.top32) (n : Nat) : jsnAdd j n ≤ Config.top32 := by
  have e : Config.top32 = 4294967295 := rfl
  rw [e] at h
  unfold jsnAdd
  rw [e]
  split
  · exact h
  · split <;> omega

/-- One step more is the next JSN. -/
theorem jsnNext_jsnAdd {j : Nat} (h : j ≤ Config.top32) (n : Nat) : jsnNext (jsnAdd j n) = jsnAdd j (n + 1) := by
  have e : Config.top32 = 4294967295 := rfl
  rw [e] at h
  unfold jsnNext jsnAdd
  rw [e]
  by_cases hn : n = 0 <;> by_cases hj : j = 0 <;> simp only [hn, hj, if_true, if_false, Nat.succ_ne_zero] <;>
    split <;> omega

theorem jsnNext_le {j : Nat} (h : j ≤ Config.top32) : jsnNext j ≤ Config.top32 := by
  have e : Config.top32 = 4294967295 := rfl
  unfold jsnNext
  rw [e] at h ⊢
  split <;> omega

/-- Steps add up. -/
theorem jsnAdd_jsnAdd {j : Nat} (h : j ≤ Config.top32) (m n : Nat) : jsnAdd (jsnAdd j m) n = jsnAdd j (m + n) := by
  induction n with
  | zero => rfl
  | succ n ih => rw [← jsnNext_jsnAdd (jsnAdd_le h m), ih, jsnNext_jsnAdd h, Nat.add_assoc]

/-! ## Room -/

theorem fitCount_le (used : Nat) (es : List Entry) : fitCount used es ≤ es.length := by
  induction es generalizing used with
  | nil => exact Nat.le_refl 0
  | cons e es ih =>
    simp only [fitCount]
    split
    · have := ih (used + e.size)
      simp only [List.length_cons]; omega
    · exact Nat.zero_le _

/-- An offer is taken exactly when the journal can take the entries (R145). -/
theorem State.offer_taken (s : State) (own : Bool) (es : List Entry) : (s.offer own es).2 = s.canTake own es := by
  unfold State.offer State.canTake
  cases es.isEmpty
  · cases hf : s.jrn.fault
    · simp only [Option.isSome_none, Option.isNone_none, Bool.false_eq_true, if_false, Bool.false_or, Bool.true_and]
      have hb : (!own && (s.prepare own).passBlocked) = !(own || !s.passBlocked) := by
        cases own
        · show s.passBlocked = !(!s.passBlocked)
          simp
        · rfl
      cases hp : (s.prepare own).jrn.page with
      | none => rfl
      | some p =>
        dsimp only
        rw [hb]
        cases p.full <;> cases (own || !s.passBlocked) <;> simp only [Bool.not_true, Bool.not_false, Bool.or_true,
          Bool.or_false, Bool.and_true, Bool.and_false, Bool.true_and, Bool.false_and, if_true, if_false,
          Bool.false_eq_true]
        split_ifs <;> simp_all
    · simp
  · simp

theorem Change.commit_made (c : Change) (own : Bool) (s : State) :
    (c.commit own s).2 = c.st.canTake own c.entries := by
  unfold Change.commit
  rw [State.offer_taken]
  split <;> simp_all

/-! ## The last JSN and the durable JSN -/

theorem State.makePageOrder_jrn {s t : State} {i id : Nat} {b : OrderBody} {h r : Bool}
    (e : s.makePageOrder i b h r = some (t, id)) : t.jrn = s.jrn := by
  unfold State.makePageOrder at e
  split at e
  · cases e
  · split at e
    · cases e
    · split at e <;> cases e <;> simp

/-- Giving an order changes the images alone. -/
theorem State.giveOrder_jrn (s : State) (psn : Nat) (b : Bool) :
    (s.giveOrder psn b).jrn = { s.jrn with images := (s.giveOrder psn b).jrn.images } := by
  unfold State.giveOrder
  split
  · rfl
  · split
    · rfl
    · dsimp only
      split
      · rfl
      · rename_i h
        simp [State.setImages, State.makePageOrder_jrn h]

theorem State.giveOrders_jrn (s : State) : s.giveOrders.jrn = { s.jrn with images := s.giveOrders.jrn.images } := by
  have : ∀ (xs : List Nat) (t : State), (xs.foldl (fun u psn => u.giveOrder psn false) t).jrn =
      { t.jrn with images := (xs.foldl (fun u psn => u.giveOrder psn false) t).jrn.images } := by
    intro xs
    induction xs with
    | nil => intro t; rfl
    | cons x xs ih => intro t; rw [List.foldl_cons, ih, State.giveOrder_jrn]
  exact this _ s

@[simp] theorem State.giveOrders_fields (s : State) :
    s.giveOrders.jrn.lastJsn = s.jrn.lastJsn ∧ s.giveOrders.jrn.durableJsn = s.jrn.durableJsn ∧
      s.giveOrders.jrn.page = s.jrn.page := by
  rw [State.giveOrders_jrn]; exact ⟨rfl, rfl, rfl⟩

@[simp] theorem State.makeImage_jsns (s : State) (b : Bool) :
    (s.makeImage b).jrn.lastJsn = s.jrn.lastJsn ∧ (s.makeImage b).jrn.durableJsn = s.jrn.durableJsn := by
  unfold State.makeImage
  split
  · exact ⟨rfl, rfl⟩
  · dsimp only
    split
    · split <;> simp [State.setImages]
    · simp [State.setImages]

@[simp] theorem State.emit_jsns (s : State) (b : Bool) :
    (s.emit b).jrn.lastJsn = s.jrn.lastJsn ∧ (s.emit b).jrn.durableJsn = s.jrn.durableJsn := by
  unfold State.emit
  repeat' split
  all_goals simp

@[simp] theorem State.tryFinal_jsns (s : State) :
    s.tryFinal.jrn.lastJsn = s.jrn.lastJsn ∧ s.tryFinal.jrn.durableJsn = s.jrn.durableJsn := by
  unfold State.tryFinal
  repeat' split
  all_goals simp

@[simp] theorem State.tryPending_jsns (s : State) :
    s.tryPending.jrn.lastJsn = s.jrn.lastJsn ∧ s.tryPending.jrn.durableJsn = s.jrn.durableJsn := by
  unfold State.tryPending
  repeat' split
  all_goals simp

@[simp] theorem State.openNext_jsns (s : State) :
    s.openNext.jrn.lastJsn = s.jrn.lastJsn ∧ s.openNext.jrn.durableJsn = s.jrn.durableJsn := ⟨rfl, rfl⟩

@[simp] theorem State.tryOpen_jsns (s : State) (own : Bool) :
    (s.tryOpen own).jrn.lastJsn = s.jrn.lastJsn ∧ (s.tryOpen own).jrn.durableJsn = s.jrn.durableJsn := by
  unfold State.tryOpen
  repeat' split
  all_goals simp

@[simp] theorem State.journalAdvance_jsns (s : State) :
    s.journalAdvance.jrn.lastJsn = s.jrn.lastJsn ∧ s.journalAdvance.jrn.durableJsn = s.jrn.durableJsn := by
  simp [State.journalAdvance]

@[simp] theorem State.prepare_jsns (s : State) (own : Bool) :
    (s.prepare own).jrn.lastJsn = s.jrn.lastJsn ∧ (s.prepare own).jrn.durableJsn = s.jrn.durableJsn := by
  unfold State.prepare
  split <;> simp

@[simp] theorem State.markFull_jsns (s : State) :
    s.markFull.jrn.lastJsn = s.jrn.lastJsn ∧ s.markFull.jrn.durableJsn = s.jrn.durableJsn := by
  unfold State.markFull
  split <;> simp

/-- The open page after the placing of entries: they stand behind those of the page, each under the next JSN. -/
theorem State.placeEntries_page {s : State} (h : s.jrn.lastJsn ≤ Config.top32) (es : List Entry) {p : OpenPage}
    (hp : s.jrn.page = some p) :
    (s.placeEntries es).jrn.lastJsn = jsnAdd s.jrn.lastJsn es.length ∧
      (s.placeEntries es).jrn.durableJsn = s.jrn.durableJsn ∧
      ∃ q, (s.placeEntries es).jrn.page = some q ∧ q.entries = p.entries ++ es ∧ q.firstJsn = p.firstJsn ∧
        q.used = p.used + (es.map Entry.size).sum ∧ q.unemitted = p.unemitted + es.length ∧ q.full = p.full := by
  induction es generalizing s p with
  | nil => exact ⟨rfl, rfl, p, hp, by simp, rfl, rfl, rfl, rfl⟩
  | cons e es ih =>
    obtain ⟨q, hq⟩ : ∃ q, (s.placeEntry e).jrn.page = some q := by simp [State.placeEntry, hp]
    have hl : (s.placeEntry e).jrn.lastJsn = jsnNext s.jrn.lastJsn := by simp [State.placeEntry, hp]
    have hd : (s.placeEntry e).jrn.durableJsn = s.jrn.durableJsn := by simp [State.placeEntry, hp]
    have hn : jsnNext s.jrn.lastJsn = jsnAdd s.jrn.lastJsn 1 := jsnNext_jsnAdd h 0
    obtain ⟨a, b, r, hr, he, hf, hu, hm, hx⟩ := ih (s := s.placeEntry e) (by rw [hl]; exact jsnNext_le h) hq
    have q' : q = { p with
        entries := p.entries ++ [e], used := p.used + e.size, unemitted := p.unemitted + 1
        linger := if p.unemitted = 0 then some s.now else p.linger } := by
      simpa [State.placeEntry, hp] using hq.symm
    subst q'
    refine ⟨?_, by simpa [State.placeEntries, hd] using b, r, hr, by simp [he], by simpa using hf, ?_, ?_, by simpa using hx⟩
    · show ((s.placeEntry e).placeEntries es).jrn.lastJsn = _
      rw [a, hl, hn, jsnAdd_jsnAdd h, Nat.add_comm]; rfl
    · simp only [hu, List.map_cons, List.sum_cons]; omega
    · simp only [hm, List.length_cons]; omega

@[simp] theorem State.makeImage_page (s : State) (b : Bool) :
    (s.makeImage b).jrn.page.isSome = s.jrn.page.isSome := by
  unfold State.makeImage
  split
  · rfl
  · rename_i hp
    dsimp only
    split
    · split <;> simp [State.setImages, hp]
    · simp [State.setImages, hp]

/-- What an offer does to the JSNs: the durable JSN is kept, and the last JSN rises by the entries taken, or not at
all. -/
theorem State.offer_jsns {s : State} (h : s.jrn.lastJsn ≤ Config.top32) (own : Bool) (es : List Entry) :
    (s.offer own es).1.jrn.durableJsn = s.jrn.durableJsn ∧
      (s.offer own es).1.jrn.lastJsn = if s.canTake own es then jsnAdd s.jrn.lastJsn es.length else s.jrn.lastJsn := by
  rw [← State.offer_taken]
  generalize hr : s.offer own es = r
  unfold State.offer at hr
  split at hr
  · rename_i he
    rw [List.isEmpty_iff.mp he, ← hr]
    exact ⟨rfl, by simp [jsnAdd]⟩
  split at hr
  · simp [← hr]
  dsimp only at hr
  cases hp : (s.prepare own).jrn.page with
  | none => simp [hp] at hr; simp [← hr]
  | some p =>
    have hl : (s.prepare own).jrn.lastJsn ≤ Config.top32 := by simpa using h
    rw [hp] at hr
    dsimp only at hr
    split at hr
    · simp [← hr]
    split at hr
    · obtain ⟨a, b, -⟩ := State.placeEntries_page hl es hp
      simp [← hr, a, b]
    split at hr
    · obtain ⟨a, b, q, hq, -⟩ := State.placeEntries_page hl (es.take (fitCount p.used es)) hp
      obtain ⟨c, d, -⟩ := State.placeEntries_page
        (s := ((((s.prepare own).placeEntries (es.take (fitCount p.used es))).markFull).makeImage false).openNext)
        (by simpa [a] using jsnAdd_le h _) (es.drop (fitCount p.used es)) rfl
      subst hr
      refine ⟨by simp [d, b], ?_⟩
      simp only [if_true, c, State.openNext_jsns, State.makeImage_jsns, State.markFull_jsns, a, State.prepare_jsns]
      rw [jsnAdd_jsnAdd h, ← List.length_append, List.take_append_drop]
    · simp [← hr]

end Sys2Proof.Machine
end

