-- ==== Sys2Proof/Laws/Ops.lean ====
section
/-! SUPPORT. What the shared operations do to the part of State they write; Laws/Frames.lean says what they leave. -/

namespace Sys2Proof.Machine

/-! ## Records -/

@[simp] theorem State.setRecords_records (s : State) (rs : List Rec) : (s.setRecords rs).records = rs := rfl
@[simp] theorem State.setRecords_map (s : State) (rs : List Rec) :
    (s.setRecords rs).map = { s.map with records := rs } := rfl

/-- Changing the record of an id changes the records of that id alone. -/
@[simp] theorem State.updateRecord_records (s : State) (id : Nat) (f : Rec → Rec) :
    (s.updateRecord id f).records = s.records.map (fun r => if r.id = id then f r else r) := rfl

theorem mem_insertRec (r x : Rec) (rs : List Rec) : x ∈ insertRec r rs ↔ x = r ∨ x ∈ rs := by
  induction rs with
  | nil => simp [insertRec]
  | cons y ys ih =>
    simp only [insertRec]
    split
    · simp
    · simp only [List.mem_cons, ih]; tauto

/-- A record added joins the records. -/
@[simp] theorem State.mem_addRecord (s : State) (r x : Rec) : x ∈ (s.addRecord r).records ↔ x = r ∨ x ∈ s.records :=
  mem_insertRec r x s.records

/-- A record dropped leaves the table, the lists and every open write. -/
theorem State.dropRecord_records (s : State) (id : Nat) :
    (s.dropRecord id).records = s.records.filter (fun r => r.id ≠ id) := by
  simp [State.dropRecord, State.records, State.setRecords, State.dirtyLeave, State.dropListings, State.removeVictim]

/-! ## Lists of the planner -/

@[simp] theorem State.dirtyHead_list (s : State) (id : Nat) :
    (s.dirtyHead id).plan.dirtyList = id :: s.plan.dirtyList.filter (fun x => x ≠ id) := rfl
@[simp] theorem State.dirtyLeave_list (s : State) (id : Nat) :
    (s.dirtyLeave id).plan.dirtyList = s.plan.dirtyList.filter (fun x => x ≠ id) := rfl

theorem State.dirtyTail_list (s : State) (id : Nat) :
    (s.dirtyTail id).plan.dirtyList = if id ∈ s.plan.dirtyList then s.plan.dirtyList else s.plan.dirtyList ++ [id] := by
  unfold State.dirtyTail
  split <;> simp_all

theorem State.mem_dirtyTail (s : State) (id : Nat) : id ∈ (s.dirtyTail id).plan.dirtyList := by
  rw [State.dirtyTail_list]
  split <;> simp_all

@[simp] theorem State.removeVictim_list (s : State) (id : Nat) :
    (s.removeVictim id).plan.victims = s.plan.victims.filter (fun v => v.record ≠ id) := rfl

theorem mem_insertVictim (v x : Victim) (vs : List Victim) : x ∈ insertVictim v vs ↔ x = v ∨ x ∈ vs := by
  induction vs with
  | nil => simp [insertVictim]
  | cons y ys ih =>
    simp only [insertVictim]
    split
    · simp
    · simp only [List.mem_cons, ih]; tauto

/-! ## Jobs and orders -/

theorem mem_insertJob (j x : Job) (js : List Job) : x ∈ insertJob j js ↔ x = j ∨ x ∈ js := by
  induction js with
  | nil => simp [insertJob]
  | cons y ys ih =>
    simp only [insertJob]
    split
    · simp
    · simp only [List.mem_cons, ih]; tauto

@[simp] theorem State.endJob_jobs (s : State) (id : Nat) :
    (s.endJob id).work.jobs = s.work.jobs.filter (fun j => j.id ≠ id) := rfl

@[simp] theorem State.updateJob_jobs (s : State) (id : Nat) (f : Job → Job) :
    (s.updateJob id f).work.jobs = s.work.jobs.map (fun j => if j.id = id then f j else j) := rfl

@[simp] theorem State.withdrawOrder_queues (s : State) (id : Nat) :
    (s.withdrawOrder id).work.dQueue = s.work.dQueue.filter (fun o => o.id ≠ id) ∧
      (s.withdrawOrder id).work.migQueue = s.work.migQueue.filter (fun o => o.id ≠ id) ∧
      (s.withdrawOrder id).work.dIssued = s.work.dIssued ∧ (s.withdrawOrder id).work.fIssued = s.work.fIssued :=
  ⟨rfl, rfl, rfl, rfl⟩

/-- Readiness of an order changes no order. -/
@[simp] theorem State.readyD_work (s : State) : s.readyD.work = s.work := by
  unfold State.readyD; split <;> simp
@[simp] theorem State.readyF_work (s : State) : s.readyF.work = s.work := by
  unfold State.readyF; split <;> simp

@[simp] theorem State.joinD_work (s : State) (o : Order) :
    (s.joinD o).work = { s.work with dQueue := s.work.dQueue ++ [o] } := by simp [State.joinD]
@[simp] theorem State.joinMig_work (s : State) (o : Order) :
    (s.joinMig o).work = { s.work with migQueue := s.work.migQueue ++ [o] } := by simp [State.joinMig]

@[simp] theorem State.bumpGen_work (s : State) (id : Nat) :
    (s.bumpGen id).work = { s.work with gens := s.work.gens.set id ((s.genOf id + 1) % 16) } := rfl

/-! ## Slots -/

/-- Slots that enter the quarantine stand at its tail under their JSN and are pending no more. -/
@[simp] theorem SlotPool.enterQuarantine_fields (p : SlotPool) (slots : List Nat) (jsn : Nat) :
    (p.enterQuarantine slots jsn).quarantine = p.quarantine ++
        slots.map (fun n => (⟨n, jsn, p.pendingRetire.any (fun x => x.slot = n)⟩ : Quarantined)) ∧
      (p.enterQuarantine slots jsn).pendingRetire = p.pendingRetire.filter (fun x => x.slot ∉ slots) ∧
      (p.enterQuarantine slots jsn).free = p.free ∧ (p.enterQuarantine slots jsn).retired = p.retired :=
  ⟨rfl, rfl, rfl, rfl⟩

/-- With no slot pending, a reservation goes back to the tail of the free pool whole. -/
theorem SlotPool.returnReservation_clean (p : SlotPool) (slots : List Nat) (h : p.pendingRetire = []) :
    p.returnReservation slots = { p with free := p.free ++ slots } := by
  cases p
  simp_all [SlotPool.returnReservation, SlotPool.dropPending, SlotPool.pendingAmong]

theorem mem_insertSorted (x y : Nat) (xs : List Nat) : y ∈ insertSorted x xs ↔ y = x ∨ y ∈ xs := by
  induction xs with
  | nil => simp [insertSorted]
  | cons z zs ih =>
    simp only [insertSorted]
    split
    · simp
    · split
      · rename_i h
        subst h
        simp
      · simp only [List.mem_cons, ih]; tauto

/-! ## Notices -/

/-- A notice put in is there, in place of one of its kind, and the others stay. -/
theorem mem_insertNotice (n m : Notice) (ms : List Notice) (h : ms.Pairwise (fun a b => a.code < b.code)) :
    m ∈ insertNotice n ms ↔ m = n ∨ (m ∈ ms ∧ m.code ≠ n.code) := by
  induction ms with
  | nil => simp [insertNotice]
  | cons x xs ih =>
    obtain ⟨hx, hxs⟩ := List.pairwise_cons.mp h
    simp only [insertNotice]
    split
    · rename_i lt
      have : ∀ y ∈ x :: xs, y.code ≠ n.code := by
        intro y hy
        rcases List.mem_cons.mp hy with rfl | hy
        · omega
        · have := hx y hy; omega
      simp only [List.mem_cons] at *
      constructor
      · rintro (rfl | hm)
        · exact .inl rfl
        · exact .inr ⟨hm, this m hm⟩
      · rintro (rfl | ⟨hm, -⟩)
        · exact .inl rfl
        · exact .inr hm
    · split
      · rename_i eq
        simp only [List.mem_cons]
        constructor
        · rintro (rfl | hm)
          · exact .inl rfl
          · have := hx m hm
            exact .inr ⟨.inr hm, by omega⟩
        · rintro (rfl | ⟨rfl | hm, ne⟩)
          · exact .inl rfl
          · omega
          · exact .inr hm
      · rename_i ne
        simp only [List.mem_cons, ih hxs]
        constructor
        · rintro (rfl | rfl | ⟨hm, hc⟩)
          · exact .inr ⟨.inl rfl, fun e => ne e.symm⟩
          · exact .inl rfl
          · exact .inr ⟨.inr hm, hc⟩
        · rintro (rfl | ⟨rfl | hm, hc⟩)
          · exact .inr (.inl rfl)
          · exact .inl rfl
          · exact .inr (.inr ⟨hm, hc⟩)

end Sys2Proof.Machine
end

