-- ==== Sys2Proof/Laws/PerInstr.lean ====
section
/-! SUPPORT. A statement about every command as syntax: the frame that carries a well-formed request command has the
kind code and the body length of its row in the table of section 11.1, and its body fits the length field. -/

namespace Sys2Proof.Laws

open Sys2Proof.Machine

/-- The body length of a request, by the table of section 11.1. -/
def requestLength : Request → Nat
  | .locate _ _ | .writeOpen _ _ | .discard _ _ | .pin _ _ | .unpin _ _ | .setParam _ _ => 5
  | .writeClose _ _ _ | .finish _ _ _ none => 3
  | .finish _ _ _ (some _) => 4099
  | .sync | .reset | .fetch | .status | .getNotice => 0
  | .power _ | .spindle _ | .getParam _ => 1
  | .attach _ | .retire _ => 4
  | .format _ _ => 8

/-- The body of a request's frame has the length of its row, where a page image is one page long. -/
theorem requestFrame_length (r : Request) (tag : Nat) (h : r.fits = true) :
    (requestFrame r tag).body.length = requestLength r := by
  cases r with
  | finish id g o img => cases img <;> simp_all [requestFrame, requestBody, requestLength, leBytes_length, Request.fits]
  | _ => simp [requestFrame, requestBody, requestLength, leBytes_length]

theorem requestLength_lt (r : Request) : requestLength r < 2 ^ 16 := by
  cases r with
  | finish id g o img => cases img <;> simp [requestLength]
  | _ => simp [requestLength]

/-- What the frame of a request command is: its kind code, its body length, and a body that the header can tell. -/
def RequestFrames.Statement (i : Instr) : Prop :=
  i.WellFormed = true → ∀ l tag r, i.request = some (l, tag, r) →
    (requestFrame r tag).kind.toNat = requestKind r ∧ (requestFrame r tag).body.length = requestLength r ∧
      (requestFrame r tag).fits = true

/-- A request command presents a request whose fields fit. -/
theorem RequestFrames.of_request (i : Instr) (l : Link) (tag : Nat) (r : Request) (h : i.request = some (l, tag, r)) :
    RequestFrames.Statement i := by
  intro w l' tag' r' h'
  obtain ⟨rfl, rfl, rfl⟩ : l = l' ∧ tag = tag' ∧ r = r' := by simpa [h] using h'
  have f : r.fits = true := by simp_all [Instr.WellFormed]
  have e := requestFrame_length r tag f
  exact ⟨requestFrame_kind r tag, e, by simpa [Frame.fits, e] using requestLength_lt r⟩

/-- A command that presents no request has no frame. -/
theorem RequestFrames.of_event (i : Instr) (h : i.request = none) : RequestFrames.Statement i := by
  intro _ l tag r h'
  simp [h] at h'

theorem RequestFrames.frameArrival (link : Link) (bytes : List Byte) :
    Statement (.frameArrival link bytes) := of_event _ rfl
theorem RequestFrames.locate (tag first count corrected : Nat) :
    Statement (.locate tag first count corrected) := of_request _ _ _ _ rfl
theorem RequestFrames.writeOpen (tag first count corrected : Nat) :
    Statement (.writeOpen tag first count corrected) := of_request _ _ _ _ rfl
theorem RequestFrames.writeClose (tag handle gen outcome corrected : Nat) :
    Statement (.writeClose tag handle gen outcome corrected) := of_request _ _ _ _ rfl
theorem RequestFrames.discard (tag first count corrected : Nat) :
    Statement (.discard tag first count corrected) := of_request _ _ _ _ rfl
theorem RequestFrames.pin (tag first count corrected : Nat) :
    Statement (.pin tag first count corrected) := of_request _ _ _ _ rfl
theorem RequestFrames.unpin (tag first count corrected : Nat) :
    Statement (.unpin tag first count corrected) := of_request _ _ _ _ rfl
theorem RequestFrames.sync (tag corrected : Nat) : Statement (.sync tag corrected) := of_request _ _ _ _ rfl
theorem RequestFrames.power (tag mode corrected : Nat) :
    Statement (.power tag mode corrected) := of_request _ _ _ _ rfl
theorem RequestFrames.reset (tag corrected : Nat) : Statement (.reset tag corrected) := of_request _ _ _ _ rfl
theorem RequestFrames.setParam (link : Link) (tag param value corrected : Nat) :
    Statement (.setParam link tag param value corrected) := of_request _ _ _ _ rfl
theorem RequestFrames.getParam (link : Link) (tag param : Nat) :
    Statement (.getParam link tag param) := of_request _ _ _ _ rfl
theorem RequestFrames.status (link : Link) (tag corrected : Nat) :
    Statement (.status link tag corrected) := of_request _ _ _ _ rfl
theorem RequestFrames.getNotice (link : Link) (tag : Nat) :
    Statement (.getNotice link tag) := of_request _ _ _ _ rfl
theorem RequestFrames.spindle (tag state corrected : Nat) :
    Statement (.spindle tag state corrected) := of_request _ _ _ _ rfl
theorem RequestFrames.fetch (link : Link) (tag corrected : Nat) :
    Statement (.fetch link tag corrected) := of_request _ _ _ _ rfl
theorem RequestFrames.finish (link : Link) (tag order gen outcome : Nat) (image : Option (List Byte)) (corrected : Nat) :
    Statement (.finish link tag order gen outcome image corrected) := of_request _ _ _ _ rfl
theorem RequestFrames.attach (tag pages corrected : Nat) :
    Statement (.attach tag pages corrected) := of_request _ _ _ _ rfl
theorem RequestFrames.format (tag slots grains corrected : Nat) :
    Statement (.format tag slots grains corrected) := of_request _ _ _ _ rfl
theorem RequestFrames.retire (tag slot corrected : Nat) :
    Statement (.retire tag slot corrected) := of_request _ _ _ _ rfl
theorem RequestFrames.epochTick (corrected : Nat) : Statement (.epochTick corrected) := of_event _ rfl
theorem RequestFrames.writeTimeout (handle corrected : Nat) :
    Statement (.writeTimeout handle corrected) := of_event _ rfl
theorem RequestFrames.heldTimeoutClose (handle corrected : Nat) :
    Statement (.heldTimeoutClose handle corrected) := of_event _ rfl
theorem RequestFrames.lingerExpiry (corrected : Nat) : Statement (.lingerExpiry corrected) := of_event _ rfl
theorem RequestFrames.warningStart (pfwnLow : Bool) (vdd corrected : Nat) :
    Statement (.warningStart pfwnLow vdd corrected) := of_event _ rfl
theorem RequestFrames.clearingFilter (pfwnLow : Bool) (vdd : Nat) :
    Statement (.clearingFilter pfwnLow vdd) := of_event _ rfl
theorem RequestFrames.warningClear : Statement .warningClear := of_event _ rfl
theorem RequestFrames.brownOut (vdd nanos : Nat) : Statement (.brownOut vdd nanos) := of_event _ rfl
theorem RequestFrames.coldStart (vdd : Nat) : Statement (.coldStart vdd) := of_event _ rfl
theorem RequestFrames.rstnLow (nanos : Nat) : Statement (.rstnLow nanos) := of_event _ rfl
theorem RequestFrames.warmStart (corrected : Nat) : Statement (.warmStart corrected) := of_event _ rfl
theorem RequestFrames.retainWake (link : Link) (corrected : Nat) :
    Statement (.retainWake link corrected) := of_event _ rfl
theorem RequestFrames.hibernateWake (link : Link) : Statement (.hibernateWake link) := of_event _ rfl
theorem RequestFrames.refresh : Statement .refresh := of_event _ rfl
theorem RequestFrames.mapLoss (corrected : Nat) : Statement (.mapLoss corrected) := of_event _ rfl
theorem RequestFrames.promotionStart (corrected : Nat) :
    Statement (.promotionStart corrected) := of_event _ rfl
theorem RequestFrames.victimRelease (corrected : Nat) : Statement (.victimRelease corrected) := of_event _ rfl
theorem RequestFrames.writebackStart (corrected : Nat) :
    Statement (.writebackStart corrected) := of_event _ rfl
theorem RequestFrames.sweepVisit (corrected : Nat) : Statement (.sweepVisit corrected) := of_event _ rfl
theorem RequestFrames.completingJobCompletion (corrected : Nat) :
    Statement (.completingJobCompletion corrected) := of_event _ rfl
theorem RequestFrames.ckptBegin (corrected : Nat) : Statement (.ckptBegin corrected) := of_event _ rfl
theorem RequestFrames.ckptRecord (corrected : Nat) : Statement (.ckptRecord corrected) := of_event _ rfl
theorem RequestFrames.ckptRetired (corrected : Nat) : Statement (.ckptRetired corrected) := of_event _ rfl
theorem RequestFrames.ckptEnd (corrected : Nat) : Statement (.ckptEnd corrected) := of_event _ rfl
theorem RequestFrames.withdrawal (corrected : Nat) : Statement (.withdrawal corrected) := of_event _ rfl
theorem RequestFrames.waitingRetirementRelease (record corrected : Nat) :
    Statement (.waitingRetirementRelease record corrected) := of_event _ rfl

end Sys2Proof.Laws
end

