-- ==== Sys2Proof/Tests/Slice0.lean ====
section
/-! SUPPORT. Tests: the checks of WellFormed, the layouts of request frames, the worked cases of the manual, a step or
two of every command, and for every statement with hypotheses a state and operands that meet them. -/

namespace Sys2Proof.Tests

open Sys2Proof.Machine

/-! ## Helpers -/

/-- The next state of a command; the state itself where it has none. -/
def after (i : Instr) (s : State) : State :=
  match exec i s with
  | .next t => t
  | .fault _ | .refused _ => s

/-- A step answers a next state. -/
def stepsOn (s : State) : Bool :=
  match step s with
  | .next _ => true
  | .fault _ | .refused _ => false

def emptyPage (jsn : Nat) : OpenPage :=
  { firstJsn := jsn, entries := [], used := 0, full := false, finalMade := false, passOnly := false, unemitted := 0
    linger := none }

/-- An open page with one unemitted SLOT_RETIRE that took JSN 1. -/
def usedPage : OpenPage :=
  { emptyPage 1 with entries := [.slotRetire 9], used := (Entry.slotRetire 9).size, unemitted := 1, linger := some 0 }

/-- A serving part with the records, free slots and spindle state given. -/
def part (rs : List Rec) (free : List Nat) (sp : Spindle) : State :=
  { State.reset with
    params := { Params.default with reserveSlots := 0 }
    map := { PlacementMap.reset with records := rs, slotCount := 1024, diskGrains := 65536 }
    pool := { SlotPool.reset with free := free }
    work := { Work.reset with spindle := sp }
    jrn := { Journal.reset with page := some (emptyPage 1) }
    recovery := { service := .serving, ringPages := 2048, phase := .none, format := none }
    supply := { Supply.reset with warning := false } }

def record (id first len : Nat) (st : RecState) (slots : List Nat) (dirty : Mask) : Rec :=
  { id := id, first := first, len := len, state := st, heat := 0, epoch := 0, slots := slots, dirty := dirty
    rewrite := 0, openWrites := 0, attempts := 0, pinned := false, absorbOpen := false, wbFailed := false }

def tracked (id first len : Nat) : Rec := record id first len .tracked [] 0
def mirrored (id first len slot : Nat) : Rec := record id first len .mirrored (List.range' slot len) 0
def dirty (id first len slot : Nat) (m : Mask) : Rec := record id first len .dirty (List.range' slot len) m

/-- A job that promotes record `r` into slots 30, 31, ... -/
def promotion (id r first len : Nat) (stage : Stage) : Job :=
  { id := id, kind := .promote (List.range' 30 len), record := r, first := first, len := len, stage := stage
    cancel := false, attempts := 0 }

def withJob (s : State) (j : Job) (d f : List Order) : State :=
  { s with work := { s.work with jobs := [j], dIssued := d, fIssued := f } }

def openedAt (first count : Nat) (ls : List Listing) : OpenWrite :=
  { first := first, count := count, opened := 0, listings := ls, commitJsn := 0, held := false }

/-- Handle 0 holds a write. -/
def withWrite (s : State) (w : OpenWrite) : State :=
  { s with writes := { handles := { gen := 0, write := some w } :: List.replicate 31 { gen := 0, write := none }, search := 0 } }

/-- The journal unable to take an entry: its one ring page left is the open one, and full. -/
def packed (s : State) : State :=
  { s with
    recovery := { s.recovery with ringPages := 1 }
    jrn := { s.jrn with page := s.jrn.page.map (fun p => { p with used := 4064 }) } }

/-- JOURNAL_FAULT with page 1 of first JSN 2. -/
def faulted (s : State) : State := { s with jrn := { s.jrn with fault := some ⟨1, 2⟩ } }

def noticesOn (s : State) (l : Link) : List Notice := (s.port l).notices
def codes (s : State) : List ReplyCode := s.sent.map (fun r => r.outcome)
def bodies (s : State) : List ReplyBody := s.sent.map (fun r => r.body)

/-- The parts on which most tests run. -/
def plain : State := part [] [] .stopped
def spinning : State := part [] [] .spinning

/-! ## WellFormed: an ill-formed term for each check -/

theorem test_wellFormed_tag : (Instr.sync 16 0).WellFormed = false := by decide
theorem test_wellFormed_range_first : (Instr.locate 0 (2 ^ 32) 1 0).WellFormed = false := by decide
theorem test_wellFormed_range_count : (Instr.pin 0 0 256 0).WellFormed = false := by decide
theorem test_wellFormed_frame : (Instr.frameArrival .iLink [0x08#8, 0#8, 2#8, 0#8, 1#8]).WellFormed = false := by decide
theorem test_wellFormed_close : (Instr.writeClose 0 256 0 0 0).WellFormed = false := by decide
theorem test_wellFormed_power : (Instr.power 0 256 0).WellFormed = false := by decide
theorem test_wellFormed_spindle : (Instr.spindle 0 256 0).WellFormed = false := by decide
theorem test_wellFormed_finish : (Instr.finish .fLink 0 256 0 0 none 0).WellFormed = false := by decide
theorem test_wellFormed_image : (Instr.finish .fLink 0 8 0 0 (some [0]) 0).WellFormed = false := by decide
theorem test_wellFormed_attach : (Instr.attach 0 (2 ^ 32) 0).WellFormed = false := by decide
theorem test_wellFormed_format : (Instr.format 0 1024 (2 ^ 32) 0).WellFormed = false := by decide
theorem test_wellFormed_retire : (Instr.retire 0 (2 ^ 32) 0).WellFormed = false := by decide
theorem test_wellFormed_setParam : (Instr.setParam .iLink 0 1 (2 ^ 32) 0).WellFormed = false := by decide
theorem test_wellFormed_getParam : (Instr.getParam .iLink 0 256).WellFormed = false := by decide
theorem test_wellFormed_handle : (Instr.writeTimeout 32 0).WellFormed = false := by decide
theorem test_wellFormed_record : (Instr.waitingRetirementRelease 16384 0).WellFormed = false := by decide
theorem test_wellFormed_good : (Instr.locate 15 (2 ^ 32 - 1) 255 0).WellFormed = true := by decide

/-! ## Layouts: frames and entries written out from chapter 11 -/

/-- LOCATE of 64,016, count 10: kind 01h, grain in 4 bytes, count in 1, little-endian. -/
theorem test_frame_locate :
    frameRequest { kind := 0x01#8, tag := 3#8, body := [0x10#8, 0xFA#8, 0#8, 0#8, 10#8] } = some (.locate 64016 10) := by
  decide
theorem test_frame_finish :
    frameRequest { kind := 0x12#8, tag := 0#8, body := [8#8, 15#8, 2#8] } = some (.finish 8 15 2 none) := by decide
theorem test_frame_format :
    frameRequest { kind := 0x21#8, tag := 0#8, body := [0#8, 4#8, 0#8, 0#8, 0#8, 0#8, 1#8, 0#8] } =
      some (.format 1024 65536) := by decide
theorem test_frame_setParam :
    frameRequest { kind := 0x30#8, tag := 0#8, body := [7#8, 0x3C#8, 0#8, 0#8, 0#8] } = some (.setParam 7 60) := by decide
theorem test_frame_short : frameRequest { kind := 0x01#8, tag := 0#8, body := [1#8] } = none := by decide
theorem test_frame_unknown : frameRequest { kind := 0x0A#8, tag := 0#8, body := [] } = none := by decide

/-! ## Worked cases of chapter 2 -/

/-- Length 24, H = 1,000, E = C - 3, spindle STOPPED: H becomes 221, the density 587. -/
theorem test_worked_heat :
    let r := { tracked 0 0 24 with heat := 1000, epoch := 7 }
    r.currentHeat 10 = 125 ∧ (r.touched 96 10).heat = 221 ∧ (r.touched 96 10).density 10 = 587 ∧
      (r.touched 24 10).density 10 = 395 := by decide
theorem test_worked_limits :
    ({ tracked 0 0 1 with heat := 65530 }.touched 96 0).density 0 = 4193216 ∧
      { tracked 0 0 40 with heat := 65535 }.currentHeat 15 = 1 ∧
      { tracked 0 0 40 with heat := 65535 }.currentHeat 16 = 0 := by decide
/-- The five requests of the stream case, STREAM_MIN 96. -/
theorem test_worked_stream :
    let a := streamMatch [] 96 1000 64
    let b := streamMatch a.2 96 5000 8
    let c := streamMatch b.2 96 1064 32
    let d := streamMatch c.2 96 1096 64
    let e := streamMatch d.2 96 1150 10
    [a.1, b.1, c.1, d.1, e.1] = [false, false, true, true, false] ∧
      e.2 = [{ next := 1160, run := 10 }, { next := 5008, run := 8 }] := by decide

/-! ## Worked case of section 1.12: one band through requests -/

def band : State :=
  { part [tracked 5 640 6, mirrored 9 670 8 500] (List.range' 900 30) .spinning with
    heat := { HeatUnit.reset with epoch := 1 } }

/-- A LOCATE of ten untracked grains behind record 5: it grows to 16 grains. -/
theorem test_worked_grow :
    ((after (.locate 1 646 10 0) band).records.map (fun r => (r.id, r.first, r.len))) = [(5, 640, 16), (9, 670, 8)] := by
  decide

/-- The write of 24 grains over record 5's end, 14 untracked grains and 4 grains of record 9, spindle STOPPED. -/
theorem test_worked_absorb :
    let s := part [tracked 5 640 16, mirrored 9 670 8 500] (List.range' 900 30) .stopped
    let t := after (.writeOpen 1 650 24 0) s
    (t.records.map (fun r => (r.id, r.first, r.len, r.slots, r.absorbOpen, r.openWrites))) =
      [(5, 640, 10, [], false, 0), (0, 650, 20, List.range' 900 20, true, 1),
        (9, 670, 8, List.range' 500 8, false, 1)] ∧
      (t.records.map (fun r => r.dirty)) = [0, 0xFFFFF, 0xF] ∧ t.jrn.lastJsn = 2 := by decide

/-- DISCARD of the first two grains of record 9, DIRTY at positions 0 to 3: the marks move down. -/
theorem test_worked_discard :
    let s := part [dirty 9 670 8 500 0xF] [] .stopped
    let t := after (.discard 1 670 2 0) s
    (t.records.map (fun r => (r.first, r.len, r.slots, r.dirty))) = [(672, 6, List.range' 502 6, 3)] ∧
      (t.pool.quarantine.map (fun q => (q.slot, q.jsn))) = [(500, 2), (501, 2)] := by decide

/-- And of the next two: the mask empties, record 9 becomes MIRRORED. -/
theorem test_worked_discard_clean :
    let t := after (.discard 1 672 2 0) (part [dirty 9 672 6 502 3] [] .stopped)
    (t.records.map (fun r => (r.first, r.len, r.state, r.dirty))) = [(674, 4, .mirrored, 0)] := by decide

/-! ## Worked case of section 4.8: a quarantine drained -/

def drained : State :=
  { part [mirrored 88 900 4 1005] [7] .stopped with
    pool :=
      { free := [7], retired := [], pendingRetire := []
        quarantine := [⟨500, 9620, false⟩, ⟨501, 9620, false⟩, ⟨502, 9622, false⟩, ⟨503, 9622, false⟩] }
    jrn := { Journal.reset with lastJsn := 9629, durableJsn := 9615, page := some (emptyPage 9630) } }

theorem test_worked_retire_quarantined :
    let t := after (.retire 1 502 0) drained
    bodies t = [.retired .pending 9630] ∧
      (t.pool.quarantine.map (fun q => q.retire)) = [false, false, true, false] := by decide

theorem test_worked_retire_held :
    let t := after (.retire 1 1007 0) { drained with jrn := { drained.jrn with lastJsn := 9630, page := some (emptyPage 9631) } }
    bodies t = [.retired .pending 9632] ∧ (t.records.map (fun r => (r.state, r.slots))) = [(.tracked, [])] ∧
      (t.pool.quarantine.drop 4) = [⟨1005, 9631, false⟩, ⟨1006, 9631, false⟩, ⟨1007, 9631, true⟩, ⟨1008, 9631, false⟩] := by
  decide

theorem test_worked_drain :
    let p : SlotPool := { drained.pool with quarantine := [⟨500, 9620, false⟩, ⟨501, 9620, false⟩, ⟨502, 9622, true⟩,
      ⟨503, 9622, false⟩, ⟨1005, 9631, false⟩] }
    let q := p.exitQuarantine 9625
    q.free = [7, 500, 501, 503] ∧ q.retired = [502] ∧ q.quarantine = [⟨1005, 9631, false⟩] := by decide

/-! ## States and operands that meet the hypotheses of the statements -/

/-! ### The queue, the idle step, the invariants -/

theorem test_meets_StepTakesFront : (plain.setPending [.refresh]).pending = .refresh :: [] := rfl

/-- An epoch tick is due, nothing is, and VDD stands 1 mV below 4.20 V. -/
theorem test_meets_IdleStepPassesTime :
    (plain.pending = [] ∧ { plain with heat := { HeatUnit.reset with timer := 30000 } }.ownEvent = some (.epochTick 0)) ∧
      plain.ownEvent = none ∧
      (let s : State := { plain with supply := { plain.supply with vdd := 4199 } }
       s.pending = [] ∧ s.supply.heldLowest = none ∧ s.supply.vdd < 4200) := by decide

theorem test_idle_brownOut :
    (match step { plain with supply := { plain.supply with vdd := 4199 } } with
      | .next t => t.supply.heldLowest
      | _ => none) = some 4199 := by decide

/-- A map with a record of each kind but those of jobs; one of them reaches the end of its band. -/
def mixed : List Rec := [mirrored 3 0 4 10, dirty 1 4 4 14 6, tracked 0 60 4, mirrored 2 64 1 18]

theorem test_sound_mixed : extentsSound mixed := ⟨by decide, by decide, by decide⟩

def mixedPart : State := part mixed (List.range' 20 8) .stopped

theorem test_meets_RegistersStaySound :
    let s := mixedPart.setPending [.setParam .iLink 1 7 60 0]
    stepsOn s = true ∧ s.linksSound ∧ s.serviceSound ∧ s.paramsSound ∧ s.tablesSound := by
  refine ⟨by decide, ⟨⟨?_, ?_, ?_⟩, ⟨?_, ?_, ?_⟩, ⟨?_, ?_, ?_⟩⟩, ⟨?_, ?_, ?_⟩, ⟨?_, by decide, by decide, ?_⟩,
    ⟨?_, ?_, ?_, ?_, ?_, ?_, ?_, ?_, ?_⟩⟩
  case refine_13 =>
    intro p l h
    cases p <;> cases l <;> first | exact absurd rfl h | exact ⟨by decide, by decide⟩
  case refine_14 =>
    intro l
    cases l <;> decide
  all_goals decide

theorem test_meets_ExtentsStaySound :
    let s := mixedPart.setPending [.locate 1 8 52 0]
    extentsSound s.records ∧ stepsOn s = true := ⟨test_sound_mixed, by decide⟩

theorem test_meets_JournalStaysSound :
    let s := { mixedPart with jrn := { Journal.reset with lastJsn := 1, page := some usedPage } }.setPending [.lingerExpiry 0]
    s.journalSound ∧ stepsOn s = true := by
  refine ⟨⟨by decide, ?_, ?_⟩, by decide⟩
  · intro p hp
    cases hp
    exact ⟨by decide, by decide, by decide, by decide, by decide⟩
  · intro r hr
    cases hr

/-- A quiesce toward a target with the mode to return to RUN. -/
def quiesced (target : SleepMode) (passDone : Bool) (s : State) : State :=
  { s with supply := { s.supply with mode := .quiescing target false passDone } }

/-- A state of RUN and one that quiesces while it waits for an open write. -/
theorem test_meets_JudgementsStayMade :
    (∀ s ∈ [mixedPart, quiesced .retain false (withWrite mixedPart (openedAt 0 4 [⟨3, false⟩]))],
      s.calm = true ∧ s.quiesceCalm = true ∧ stepsOn (s.setPending [.writeOpen 1 0 4 0]) = true) := by decide

/-- A job of each kind, a write that created a record, a candidate in each part, and 12 slots, each in one place; the
close of the write stands in front. -/
def coherent : State :=
  let s := withWrite
    (part
      [{ tracked 0 0 4 with state := .promoting }, { dirty 1 4 2 4 3 with state := .writingBack },
        { tracked 2 6 2 with heat := 600 }, { dirty 3 64 2 6 3 with absorbOpen := true, openWrites := 1 },
        { tracked 4 70 1 with pinned := true }] [10, 11] .spinning)
    (openedAt 64 2 [⟨3, true⟩])
  { s with
    pending := [.writeClose 1 0 0 0 0]
    map := { s.map with slotCount := 12 }
    pool := { free := [10, 11], retired := [9], pendingRetire := [], quarantine := [⟨8, 0, false⟩] }
    plan := { Planner.reset with candidates := [⟨4, 0, true, 1⟩, ⟨2, 19200, false, 0⟩], armed := false }
    work := { s.work with jobs :=
      [{ id := 0, kind := .promote [0, 1, 2, 3], record := 0, first := 0, len := 4, stage := .one, cancel := false
         attempts := 0 },
        { id := 1, kind := .writeback 3, record := 1, first := 4, len := 2, stage := .one, cancel := false
          attempts := 0 }] } }

theorem jobs_coherent : ∀ j ∈ coherent.work.jobs, ∃ r ∈ coherent.records, r.id = j.record ∧
    match j.kind with
    | .promote slots => r.state = .promoting ∧ slots.length = r.len
    | .writeback _ => r.state = .writingBack ∧ r.absorbOpen = false
  | _, .head _ => ⟨_, .head _, rfl, rfl, rfl⟩
  | _, .tail _ (.head _) => ⟨_, .tail _ (.head _), rfl, rfl, rfl⟩

theorem sound_coherent : coherent.mapSound :=
  ⟨⟨by decide, by decide, by decide⟩, ⟨by decide, by decide, by decide⟩,
    ⟨by intro h; rcases h with h | h | h | ⟨_, h⟩ <;> (cases h), nofun⟩,
    ⟨nofun, by decide, by decide, jobs_coherent, by decide⟩, by decide, nofun, by decide, by decide⟩

theorem test_meets_MapStaysSound : coherent.mapSound ∧ stepsOn coherent = true := ⟨sound_coherent, by decide⟩

theorem test_meets_CandidatesStaySound :
    coherent.mapSound ∧ coherent.candidatesSound ∧ stepsOn coherent = true :=
  ⟨sound_coherent, ⟨⟨by decide, by decide, by decide, by decide⟩, nofun, by decide⟩, by decide⟩

/-- In SERVING; and while the map is not in use, where the slots have no places. -/
theorem test_meets_SlotsStayPlaced :
    coherent.mapSound ∧ coherent.slotsPlaced ∧ stepsOn coherent = true ∧ (∀ r, coherent.recovery.phase ≠ .replay r) ∧
      State.reset.slotsPlaced :=
  ⟨sound_coherent, ⟨by decide, by
    intro n
    constructor
    · intro h
      have : ∀ m ∈ coherent.pool.free ++ coherent.pool.quarantine.map (fun q => q.slot) ++ coherent.pool.retired ++
          coherent.records.flatMap (fun x => x.slots) ++ coherent.work.jobs.flatMap Job.reserved, m < 12 := by decide
      exact this n h
    · intro h
      have : ∀ m < 12, m ∈ coherent.pool.free ++ coherent.pool.quarantine.map (fun q => q.slot) ++
          coherent.pool.retired ++ coherent.records.flatMap (fun x => x.slots) ++
          coherent.work.jobs.flatMap Job.reserved := by decide
      exact this n h, by unfold slotsFit; decide⟩, by decide, nofun, trivial⟩

theorem test_meets_LayoutsReadBack :
    (Request.finish 31 15 2 none).fits = true ∧ (Request.locate (2 ^ 32 - 1) 255).fits = true ∧ 15 < 16 ∧
    ({ psn := 2 ^ 32 - 1, firstJsn := 1, epoch := 0, tail := 0, slotCount := 1024, diskGrains := 65536
       entries := [.extentSet (dirty 1 4 4 14 6).entryBody, .ckptRetired [9], .extentDrop 5 255] } : Page).fits = true := by
  decide

/-! ### Links, notices and parameters -/

/-- `n` requests stand on the I-link's list. -/
def crowded (n : Nat) : State :=
  plain.setPort .iLink
    { Port.reset with accepted := (List.range n).map (fun i => { listed .sync i with standing := .syncWaits 5 }) }

theorem next_all {s : State} {l : Link} (h : (s.nextRequest l).all (fun a => linkRefusal l a = none) = true) :
    ∀ a, s.nextRequest l = some a → linkRefusal l a = none := by
  intro a ha
  simpa [ha] using h

/-- A frame cut short; RSTn low, and a part held in reset; a full list; seven requests, the last credit free, one of them
not taken yet; and the two sleeps, a frame and a request arriving. -/
theorem test_meets_FrameArrives :
    frameWhole [0x07#8, 0#8, 0#8] = false ∧
    { plain.supply with rstn := .low }.rstn ≠ .high ∧ { plain.supply with heldLowest := some 4199 }.heldLowest ≠ none ∧
    (let s := crowded 8
     s.awake = true ∧ (∀ a, s.nextRequest .iLink = some a → linkRefusal .iLink a = none) ∧ s.supply.rstn = .high ∧
       8 ≤ (s.port .iLink).accepted.length) ∧
    (let s := (crowded 6).listing .iLink .sync 9
     s.awake = true ∧ (∀ a, s.nextRequest .iLink = some a → linkRefusal .iLink a = none) ∧ s.supply.rstn = .high ∧
       (s.port .iLink).accepted.length = 7 ∧ s.nextRequest .iLink ≠ none) ∧
    (Frame.read [0x07#8, 3#8, 0#8, 0#8]).isSome ∧
    ∀ m ∈ [Mode.retain, .hibernate], { plain.supply with mode := m }.rstn = .high ∧
      plain.supply.heldLowest = none ∧ frameWhole [0x07#8, 3#8, 0#8, 0#8] = true ∧
      plain.nextRequest .dLink = none ∧ (Instr.request (.status .dLink 3 0)).isSome :=
  ⟨by decide, by decide, by decide, ⟨by decide, next_all (by decide), by decide, by decide⟩,
    ⟨by decide, next_all (by decide), by decide, by decide, by decide⟩, by decide, by decide⟩

/-- The four refusals of an arriving frame, and a credit refused. -/
theorem test_frameArrival :
    codes (after (.frameArrival .iLink [0x07#8, 3#8, 0#8, 0#8]) (crowded 7)) = [.tagInUse] ∧
      codes (after (.frameArrival .iLink [0x0A#8, 9#8, 0#8, 0#8]) plain) = [.unknown] ∧
      codes (after (.frameArrival .iLink [0x10#8, 9#8, 1#8, 0#8, 0#8]) plain) = [.notPermitted] ∧
      codes (after (.frameArrival .iLink [0x01#8, 0xF9#8, 1#8, 0#8, 0#8]) plain) = [.range] ∧
      noticesOn (after (.frameArrival .iLink [0x07#8, 3#8, 0#8, 0#8]) (crowded 8)) .iLink = [.linkOverrun 0x07#8 3] ∧
      after (.frameArrival .iLink [0x01#8, 9#8, 5#8, 0#8, 0#8]) plain = plain := by decide

/-- In RETAIN the part wakes and takes the frame; in HIBERNATE it makes a cold start first. -/
theorem test_frameArrival_wakes :
    (let t := after (.frameArrival .iLink [0x07#8, 3#8, 0#8, 0#8])
       { plain with supply := { plain.supply with mode := .retain } }
     t.supply.mode = .run ∧ (t.port .iLink).accepted.length = 1) ∧
    (let t := after (.frameArrival .fLink [0x20#8, 3#8, 4#8, 0#8, 0#8, 8#8, 0#8, 0#8])
       { plain with supply := { plain.supply with mode := .hibernate } }
     t.supply.cause = .hibernateWake ∧ t.recovery.service = .waiting ∧ (t.port .fLink).accepted.length = 1) := by decide

def noticed : State :=
  plain.setPort .iLink { Port.reset with notices := [.linkOverrun 1#8 2, .recoveryDone 7], mask := 0x0002#16 }



theorem test_meets_ServiceTableRefuses :
    let ok := fun (s : State) (i : Instr) => match i.request with
      | none => false
      | some (l, tag, r) => s.ready l tag && decide (tag < 16) && r.fits && s.steady
    let blank := { plain with recovery := { Recovery.reset with service := .blank } }
    ok plain (.fetch .iLink 15 0) = true ∧
      (ok plain (.attach 0 2048 0) && plain.calm && decide (plain.recovery.service ≠ .waiting)) = true ∧
      (ok State.reset (.format 0 0 0 0) && decide (State.reset.recovery.service = .waiting)) = true ∧
      (ok plain (.format 0 0 0 0) && plain.calm && decide (plain.recovery.service = .serving)) = true ∧
      ok State.reset (.fetch .dLink 0 0) = true ∧ ok State.reset (.finish .fLink 0 0 0 0 none 0) = true ∧
      ok State.reset (.spindle 0 0 0) = true ∧
      ok blank (.retire 0 0 0) = true ∧ ok blank (.locate 0 0 1 0) = true ∧ ok blank (.writeOpen 0 0 1 0) = true ∧
      ok blank (.writeClose 0 0 0 0 0) = true ∧ ok blank (.discard 0 0 1 0) = true ∧ ok blank (.pin 0 0 1 0) = true ∧
      ok blank (.unpin 0 0 1 0) = true ∧ ok blank (.sync 0 0) = true ∧ ok blank (.power 0 0 0) = true ∧
      ok blank (.reset 0 0) = true := by decide





theorem test_getParam : bodies (after (.getParam .dLink 1 7) plain) = [.value 30] := by decide

/-- Codes 0 and 21, which no parameter has, and those at the two ends of the table; for each kind of value stored, one
that its clamp changes, in the service states that it depends on. -/
theorem test_meets_ParamsReadAndStore :
    (∀ l : Link, l ∈ [Link.iLink, .dLink, .fLink] → plain.ready l 15 = true) ∧ plain.steady = true ∧
      plain.calm = true ∧ plain.enduring = true ∧ plain.supply.mode = .run ∧ Param.ofCode 0 = none ∧
      Param.ofCode 21 = none ∧ Param.ofCode 1 = some .tPromote ∧ Param.ofCode 19 = some .reserveSlots ∧
      Param.ofCode 20 = some .noticeMask ∧ Param.ofCode 10 = some .writeTimeout ∧
      Param.owner .tPromote ≠ some .dLink ∧ Param.ofCode 12 = some .dirtyLow ∧
      Param.owner .dirtyLow = some .iLink ∧ Param.ofCode 11 = some .dirtyHigh ∧
      Param.owner .dirtyHigh = some .iLink ∧ Param.owner .reserveSlots = some .fLink ∧
      State.reset.ready .fLink 15 = true ∧ State.reset.steady = true ∧ State.reset.calm = true := by decide

theorem test_setParam :
    bodies (after (.setParam .iLink 1 12 90 0) plain) = [.value 55] ∧
      bodies (after (.setParam .fLink 1 19 4096 0) plain) = [.value 256] ∧
      (after (.setParam .iLink 1 11 15 0) plain).params.dirtyLow = 10 ∧
      codes (after (.setParam .dLink 1 1 0 0) plain) = [.notPermitted] := by decide

/-- A budget above the cap sent; a mask; a tick due and one not due; writes at a timeout to the millisecond and one
before; a head below the threshold sent; a high mark at the dirty grains; a warning, none, and a filter; a linger timer
due and one not due; and a parameter without an effect. -/
theorem test_meets_SetParamActs :
    Param.ofCode 18 = some .budgetCap ∧ plain.ready .fLink 1 = true ∧ Param.ofCode 20 = some .noticeMask ∧
      noticed.ready .iLink 1 = true ∧ noticed.steady = true ∧ noticed.calm = true ∧
      Param.ofCode 7 = some .epochSeconds ∧
      (let s := { plain with heat := { HeatUnit.reset with timer := 1000 } }
       s.ready .iLink 1 = true ∧ s.serving = true ∧ s.steady = true ∧ s.calm = true ∧
         1000 * (after (.setParam .iLink 1 7 1 0) s).params.epochSeconds ≤ s.heat.timer ∧
         ¬1000 * (after (.setParam .iLink 1 7 2 0) s).params.epochSeconds ≤ s.heat.timer) ∧
      Param.ofCode 14 = some .warnLevel ∧ plain.supply.warning = false ∧ Param.ofCode 13 = some .journalLinger ∧
      (let s := { plain with now := 100, jrn := { Journal.reset with lastJsn := 1, page := some usedPage } }
       s.ready .iLink 1 = true ∧ s.steady = true ∧ s.calm = true ∧
         (after (.setParam .iLink 1 13 100 0) s).params.journalLinger = 100 ∧
         (after (.setParam .iLink 1 13 101 0) s).params.journalLinger = 101 ∧ 0 < usedPage.unemitted ∧
         ∃ p, s.jrn.page = some p ∧ p.linger = some 0) := by
  refine ⟨?_, ?_, ?_, ?_, ?_, ?_, ?_, ⟨?_, ?_, ?_, ?_, ?_, ?_⟩, ?_, ?_, ?_, ?_, ?_, ?_, ?_, ?_, ?_,
    ⟨usedPage, ?_, ?_⟩⟩ <;> decide

/-- A linger timer that began 100 ms ago runs on under 101 ms, and under 100 ms has its page emitted (R147). -/
theorem test_setParam_linger :
    let s := { plain with now := 100, jrn := { Journal.reset with lastJsn := 1, page := some usedPage } }
    (after (.setParam .iLink 1 13 101 0) s).jrn = s.jrn ∧
      (after (.setParam .iLink 1 13 100 0) s).jrn.images.length = 1 := by decide

theorem test_meets_StatusReports :
    mixedPart.ready .dLink 15 = true ∧ mixedPart.steady = true ∧ mixedPart.calm = true := by decide

theorem test_status :
    (after (.status .fLink 1 3) mixedPart).supply.corrected = 3 ∧
      (after (.status .fLink 1 3) mixedPart).sent.length = 1 := by decide

/-- Two notices pending; every notice masked; and an unmasked one behind a masked one. -/
theorem test_meets_NoticesPendAndReturn :
    (noticed.port .iLink).notices.Pairwise (fun a b => a.code < b.code) ∧
    (let s := noticed.setPort .iLink { noticed.port .iLink with mask := 0x01FE#16 }
     s.ready .iLink 1 = true ∧ s.steady = true ∧ s.calm = true ∧
       (s.port .iLink).notices.Pairwise (fun a b => a.code < b.code) ∧
       ∀ n ∈ (s.port .iLink).notices, (s.port .iLink).mask.getLsbD n.code = true) ∧
    (noticed.ready .iLink 1 = true ∧ noticed.steady = true ∧ noticed.calm = true ∧
      (noticed.port .iLink).notices = [.linkOverrun 1#8 2] ++ .recoveryDone 7 :: [] ∧
      (noticed.port .iLink).mask.getLsbD 1 = true ∧ (noticed.port .iLink).mask.getLsbD 8 = false) := by decide

theorem test_getNotice :
    bodies (after (.getNotice .iLink 1) noticed) = [.notice (some (.recoveryDone 7)) 0x0002#16] := by decide

/-! ### Heat -/

theorem test_meets_CurrentHeatDecays :
    let r := { tracked 0 0 40 with heat := 65535, epoch := 5 }
    r.heat ≤ 65535 ∧ 5 ≤ r.epoch ∧ r.epoch + 16 ≤ 21 ∧ 16 ≤ 16 ∧ 21 = r.epoch + 16 := by decide

theorem test_meets_DensityFollows :
    (let r := { tracked 0 0 64 with heat := 65535 }
     1 ≤ r.len ∧ r.len ≤ 64 ∧ r.heat ≤ 65535 ∧ r.len = 64) ∧
    (let r := { tracked 0 0 1 with heat := 65535 }
     1 ≤ r.len ∧ r.len ≤ 64 ∧ r.heat ≤ 65535 ∧ r.len = 1 ∧ r.currentHeat 0 = 65535) := by decide

/-! ### A full record table -/

/-- `n` places hold a record of one grain, at the even grains from 0 on. -/
def crammed (n : Nat) : State := part ((List.range n).map (fun i => tracked i (2 * i) 1)) [7] .stopped

theorem mem_crammed {n : Nat} {r : Rec} (h : r ∈ (crammed n).records) : ∃ i, i < n ∧ r = tracked i (2 * i) 1 := by
  obtain ⟨i, hi, rfl⟩ := List.mem_map.mp h
  exact ⟨i, List.mem_range.mp hi, rfl⟩

theorem sound_crammed {n : Nat} (hn : n ≤ 16384) : extentsSound (crammed n).records := by
  refine ⟨?_, ?_, ?_⟩
  · exact List.pairwise_map.mpr (List.pairwise_lt_range.imp (fun {a b} h => by
      show 2 * a + 1 ≤ 2 * b
      omega))
  · have : (crammed n).records.map (fun r => r.id) = List.range n := by
      show ((List.range n).map (fun i => tracked i (2 * i) 1)).map (fun r => r.id) = _
      rw [List.map_map]
      exact List.map_id' _
    rw [this]
    exact List.nodup_range
  · intro r hr
    obtain ⟨i, hi, rfl⟩ := mem_crammed hr
    refine ⟨Nat.lt_of_lt_of_le hi hn, Nat.le_refl 1, (by decide : (1 : Nat) ≤ 64), ?_⟩
    show 2 * i / 64 = (2 * i + 1 - 1) / 64
    rw [Nat.add_sub_cancel]

theorem crammed_recordAt {n g : Nat} (h : 2 * n ≤ g) : (crammed n).recordAt g = none := by
  refine List.find?_eq_none.mpr (fun r hr => ?_)
  obtain ⟨i, hi, rfl⟩ := mem_crammed hr
  intro hc
  simp [Rec.covers, Rec.stop, tracked, record] at hc
  omega

theorem crammed_meeting {n g : Nat} (h : 2 * n ≤ g) (k : Nat) : (crammed n).recordsMeeting g k = [] := by
  refine List.filter_eq_nil_iff.mpr (fun r hr => ?_)
  obtain ⟨i, hi, rfl⟩ := mem_crammed hr
  intro hc
  simp [Rec.meets, Rec.stop, tracked, record] at hc
  omega

theorem crammed_length (n : Nat) : (crammed n).records.length = n := by
  show ((List.range n).map (fun i => tracked i (2 * i) 1)).length = _
  rw [List.length_map, List.length_range]

theorem crammed_serves (n : Nat) : (crammed n).serves .iLink 1 = true := by
  have d : (crammed n).dirtyGrains = 0 := by
    refine List.sum_eq_zero (fun k hk => ?_)
    obtain ⟨r, hr, rfl⟩ := List.mem_map.mp hk
    obtain ⟨i, hi, rfl⟩ := mem_crammed hr
    exact (by decide : maskCount 0 = 0)
  have h : (crammed n).highMark = plain.highMark := rfl
  have p : plain.highMark = 614 := by decide
  have a : (crammed n).plan.armed = true := rfl
  have o : (crammed n).owedHolds = true := rfl
  have c : (crammed n).calm = true := by simp [State.calm, d, h, p, a, o]
  have r : ((crammed n).serving && (crammed n).ready .iLink 1 && decide (1 < 16) && (crammed n).steady) = true := rfl
  simp only [State.serves, c, Bool.and_true]
  exact r

/-- One grain beyond the full table: no promotion is met, a slot is free, and no record place is. -/
theorem crammed_short {n : Nat} (hn : n = 16384) :
    let s := crammed n
    s.serves .iLink 1 = true ∧ s.admits 40000 1 = true ∧ s.supply.warning = false ∧ s.writes.freeHandle ≠ none ∧
      (s.promotionsMet 40000 1).filter (fun j => s.jobIssued j) = [] ∧ s.work.spindle ≠ .spinning ∧
      (let u := s.cancelJobs (s.promotionsMet 40000 1)
       let absorbed := fun (g : Nat) => (u.recordAt g).all (fun x => x.state = .tracked)
       (List.range' 40000 1).countP absorbed ≤ u.pool.free.length ∧
         16384 - u.records.length + u.records.countP (fun x =>
             decide (x.state = .tracked) && decide (40000 ≤ x.first) && decide (x.first + x.len ≤ 40000 + 1)) <
           (List.range' 40000 1).countP (fun g =>
             absorbed g && (decide (g = 40000) || decide (g % 64 = 0) || !absorbed (g - 1)))) := by
  have m : (crammed n).promotionsMet 40000 1 = [] := by
    simp [State.promotionsMet, crammed_meeting (show 2 * n ≤ 40000 by omega)]
  have f : (crammed n).writes.freeHandle ≠ none := by
    have : (crammed n).writes = plain.writes := rfl
    rw [this]; decide
  have e : (crammed n).pool.free = [7] := rfl
  have c : (crammed n).records.countP (fun x =>
      decide (x.state = .tracked) && decide (40000 ≤ x.first) && decide (x.first + x.len ≤ 40000 + 1)) = 0 := by
    refine List.countP_eq_zero.mpr (fun r hr => ?_)
    obtain ⟨i, hi, rfl⟩ := mem_crammed hr
    have : ¬40000 ≤ 2 * i := by omega
    simp [tracked, record, this]
  refine ⟨crammed_serves n, rfl, rfl, f, by rw [m]; rfl, nofun, ?_⟩
  rw [m]
  show _ ≤ (crammed n).pool.free.length ∧ 16384 - (crammed n).records.length + (crammed n).records.countP _ <
    (List.range' 40000 1).countP (fun g => ((crammed n).recordAt g).all _ &&
      (decide (g = 40000) || decide (g % 64 = 0) || !((crammed n).recordAt (g - 1)).all _))
  rw [e, c, crammed_length, hn]
  refine ⟨List.countP_le_length, ?_⟩
  rw [← hn]
  simp [crammed_recordAt (show 2 * n ≤ 40000 by omega)]

/-! ### Serving -/

def warned (s : State) : State := { s with supply := { s.supply with warning := true } }

/-- Handles 0 to 31 hold a write. -/
def fullTable : State :=
  { plain with writes :=
    { handles := List.replicate 32 { gen := 0, write := some (openedAt 0 1 []) }, search := 31 } }

/-- Ranges of 0 and of 65 grains, and one that ends past DISK_GRAINS; one that ends with it, under the warning; and 32
open writes. -/
theorem test_meets_PlacementRefusals :
    plain.serves .iLink 15 = true ∧ plain.admits 0 0 = false ∧ plain.admits 0 65 = false ∧
      plain.admits 65473 64 = false ∧ plain.admits 65472 64 = true ∧ (warned plain).serves .iLink 15 = true ∧
      (warned plain).admits 65472 64 = true ∧ (warned plain).supply.warning = true ∧
      fullTable.serves .iLink 15 = true ∧ fullTable.admits 65472 64 = true ∧ fullTable.supply.warning = false ∧
      ∀ h, h < 32 → (fullTable.openWrite h).isSome := by decide

theorem test_meets_RunListCovers : extentsSound mixedPart.records := test_sound_mixed

theorem test_runList :
    (mixedPart.runList [] 2 5).map (fun r => (r.first, r.count, r.flash, r.slots)) =
      [(2, 2, true, [12, 13]), (4, 3, true, [14, 15, 16])] := by decide

/-- A stream that the request continues, in the last entry of a full table; and a request that begins one. -/
def streaming : State :=
  { mixedPart with heat := { HeatUnit.reset with
    stream := [⟨700, 1⟩, ⟨701, 1⟩, ⟨702, 1⟩, ⟨703, 1⟩, ⟨704, 1⟩, ⟨705, 1⟩, ⟨706, 1⟩, ⟨8, 256⟩] } }

theorem test_meets_LocateReplies :
    streaming.serves .iLink 1 = true ∧ streaming.admits 8 1 = true ∧
      (streaming.heat.stream.map (fun e => e.next)).Nodup ∧ streaming.heat.stream.length ≤ 8 ∧
      streaming.isStreamed 8 1 = true ∧
      streaming.heat.stream = (streaming.heat.stream.take 7) ++ ⟨8, 256⟩ :: [] ∧
      streaming.admits 60 4 = true ∧ (∀ e ∈ streaming.heat.stream, e.next ≠ 60) := by decide



theorem test_locate :
    (after (.locate 1 2 3 0) mixedPart).records.map (fun r => r.heat) = [8, 8, 0, 0] ∧
      (after (.locate 1 60 1 0) mixedPart).records.map (fun r => r.heat) = [0, 0, 96, 0] := by decide

/-- Grain 59 is untracked and lies in the range, grain 63 of a TRACKED record is followed by another band; a gap at 65
follows a MIRRORED record, and one at 64 + 1 a record of the same band; records of every kind are touched. -/
theorem test_meets_LocateCoversAndTouches :
    (mixedPart.serves .iLink 1 = true ∧ mixedPart.admits 59 1 = true ∧ mixedPart.isStreamed 59 1 = false ∧
      mixedPart.recordAt 59 = none ∧ mixedPart.admits 2 60 = true ∧ mixedPart.isStreamed 2 60 = false) ∧
    extentsSound mixedPart.records ∧
    (let s := part [tracked 0 8 4] [] .stopped
     s.recordAt (11 + 1) = none ∧ (s.recordAt 11).isSome ∧ 11 / 64 = (11 + 1) / 64) ∧
    mixedPart.recordAt 3 = some (mirrored 3 0 4 10) ∧ mixedPart.recordAt 70 = none := by
  refine ⟨by decide, test_sound_mixed, by decide, by decide, by decide⟩

/-- Gaps of the range 0 to 29: at 0 before a TRACKED record at 2, at 6 behind it and before one at 10, at 12 between that
one and a MIRRORED one at 14, at 18 behind the MIRRORED one and before a pinned one at 20, and at 24 to the range's
end. -/
def gapped : State :=
  part [tracked 0 2 4, tracked 1 10 2, mirrored 2 14 4 10, { tracked 3 20 4 with pinned := true }] [] .stopped

theorem test_meets_LocateCoversAndTouches_gaps :
    gapped.serves .iLink 1 = true ∧ gapped.admits 0 30 = true ∧ gapped.isStreamed 0 30 = false ∧
      (∀ x ∈ [(0, 2), (6, 10), (12, 14), (18, 20), (24, 30)], x.1 < x.2 ∧
        (List.range' x.1 (x.2 - x.1)).all (fun g => (gapped.recordAt g).isNone && decide (g < 30)) = true ∧
        ((gapped.recordAt x.2).isSome ∨ x.2 = 30) ∧ (x.1 = 0 ∨ (gapped.recordAt (x.1 - 1)).isSome)) ∧
      extentsSound gapped.records := by
  refine ⟨by decide, by decide, by decide, by decide, ⟨by decide, by decide, by decide⟩⟩

/-- R15: back over 0 and 1, on over 6 to 9 rather than back, on over 12 and 13; new records where neither may grow. -/
theorem test_locate_gaps :
    (after (.locate 1 0 30 0) gapped).records.map (fun r => (r.id, r.first, r.len)) =
      [(0, 0, 10), (1, 10, 4), (2, 14, 4), (4, 18, 2), (3, 20, 4), (5, 24, 6)] := by decide

/-- A promotion with an issued order. -/
def promoting : State :=
  withJob (part [{ tracked 0 0 4 with state := .promoting }] (List.range' 20 8) .stopped) (promotion 0 0 0 4 .one)
    [⟨0, .platterRead 0 0 4⟩] []

theorem sound_promoting : extentsSound promoting.records := ⟨by decide, by decide, by decide⟩
theorem sound_plain : extentsSound plain.records := ⟨by decide, by decide, by decide⟩

/-- The promotion met with its order issued; an empty free pool; a full record table; and a change of one entry in
JOURNAL_FAULT and without room, by routing alone and by absorption. -/
theorem test_meets_WriteOpenRefusals :
    (promoting.serves .iLink 1 = true ∧ promoting.admits 0 4 = true ∧ promoting.supply.warning = false ∧
      promoting.writes.freeHandle ≠ none ∧
      (promoting.promotionsMet 0 4).filter (fun j => promoting.jobIssued j) ≠ []) ∧
    (plain.serves .iLink 1 = true ∧ plain.admits 0 1 = true ∧ plain.supply.warning = false ∧
      plain.writes.freeHandle ≠ none ∧ (plain.promotionsMet 0 1).filter (fun j => plain.jobIssued j) = [] ∧
      plain.work.spindle ≠ .spinning ∧
      (plain.cancelJobs (plain.promotionsMet 0 1)).pool.free.length <
        (List.range' 0 1).countP (fun g =>
          ((plain.cancelJobs (plain.promotionsMet 0 1)).recordAt g).all (fun x => x.state = .tracked))) ∧
    (let s := crammed 16384
     s.serves .iLink 1 = true ∧ s.admits 40000 1 = true ∧ s.supply.warning = false ∧ s.writes.freeHandle ≠ none ∧
       (s.promotionsMet 40000 1).filter (fun j => s.jobIssued j) = [] ∧ s.work.spindle ≠ .spinning ∧
       (let u := s.cancelJobs (s.promotionsMet 40000 1)
        let absorbed := fun (g : Nat) => (u.recordAt g).all (fun x => x.state = .tracked)
        (List.range' 40000 1).countP absorbed ≤ u.pool.free.length ∧
          16384 - u.records.length + u.records.countP (fun x =>
              decide (x.state = .tracked) && decide (40000 ≤ x.first) && decide (x.first + x.len ≤ 40000 + 1)) <
            (List.range' 40000 1).countP (fun g =>
              absorbed g && (decide (g = 40000) || decide (g % 64 = 0) || !absorbed (g - 1))))) ∧
    (∀ sp ∈ [Spindle.spinning, .stopped], ∀ s ∈ [faulted (part mixed [40] sp), packed (part mixed [40] sp)],
      s.serves .iLink 1 = true ∧ s.admits 3 2 = true ∧ s.supply.warning = false ∧ s.writes.freeHandle ≠ none ∧
        s.promotionsMet 3 2 = [] ∧ (List.range' 3 2).all (fun g => (s.recordAt g).any (fun x => x.state ≠ .tracked)) = true ∧
        (s.routeChange 3 2 (if s.work.spindle = .spinning then [] else s.absorbRuns 3 2)).entries ≠ [] ∧
        (s.jrn.fault.isSome ∨
          (s.routeChange 3 2 (if s.work.spindle = .spinning then [] else s.absorbRuns 3 2)).fits = false)) ∧
    extentsSound promoting.records ∧ extentsSound plain.records ∧ extentsSound (crammed 16384).records ∧
      extentsSound (part mixed [40] .spinning).records :=
  ⟨by decide, by decide, crammed_short rfl, by decide, sound_promoting, sound_plain, sound_crammed (Nat.le_refl _),
    test_sound_mixed⟩

/-- The free places and those of the TRACKED records wholly in a range against the runs and the pieces cut off (R21): a
range that covers a TRACKED record and one inside another, the table full in both. -/
theorem test_places :
    let cut := fun (first count : Nat) => ((part [tracked 0 0 4, tracked 1 64 12] [] .stopped).absorbRuns first count).length
    cut 0 4 = 1 ∧ cut 66 2 = 1 ∧ cut 60 8 = 2 := by decide

theorem test_writeOpen_refused :
    codes (after (.writeOpen 1 0 4 0) promoting) = [.retry] ∧ bodies (after (.writeOpen 1 0 1 0) plain) = [.reason .noSlots] ∧
      codes (after (.writeOpen 1 3 2 0) (faulted mixedPart)) = [.hold] ∧
      codes (after (.writeOpen 1 3 2 0) (packed mixedPart)) = [.retry] := by
  decide

/-- An untracked run and, in the next band, a run that covers a record whole: with one place free the first takes it and
the second the place that its own record leaves; with none free the first finds no place (R22, R61; log 22). -/
theorem test_runsFit :
    let runs := (part [tracked 5 64 2] [] .stopped).absorbRuns 62 4
    runs.length = 2 ∧ runsFit 1 runs = true ∧ runsFit 0 runs = false := by decide


/-- The spindle SPINNING, an untracked grain met, and the one free handle the last of the search; and every grain on
flash with the spindle STOPPED. -/
theorem test_meets_WriteOpenRoutes :
    (let s := { part mixed [] .spinning with writes :=
       { handles := List.replicate 31 (⟨3, some (openedAt 0 1 [])⟩ : Handle) ++ ([⟨15, none⟩] : List Handle)
         search := 31 } }
     (s.serves .iLink 1 = true ∧ s.admits 0 64 = true ∧ s.supply.warning = false ∧ s.promotionsMet 0 64 = [] ∧
       s.work.spindle = .spinning ∧ (s.routeChange 0 64 []).fits = true ∧ s.jrn.lastJsn ≤ 4294967295 ∧
       s.writes.handles.length = 32 ∧ s.openWrite ((s.writes.search + 1 + 31) % 32) = none ∧
       ∀ m, m < 31 → s.openWrite ((s.writes.search + 1 + m) % 32) ≠ none) ∧ extentsSound s.records) ∧
    (mixedPart.promotionsMet 2 4 = [] ∧ mixedPart.work.spindle = .stopped ∧
      (∀ g ∈ List.range' 2 4, (mixedPart.flashAt g).isSome) ∧ (mixedPart.routeChange 2 4 []).fits = true) :=
  ⟨⟨by decide, test_sound_mixed⟩, by decide⟩

theorem test_writeOpen_routed :
    let t := after (.writeOpen 1 2 4 0) mixedPart
    (t.records.map (fun r => (r.id, r.openWrites))) = [(3, 1), (1, 1), (0, 0), (2, 0)] ∧
      (t.records.map (fun r => r.dirty)) = [12, 7, 0, 0] ∧ t.plan.dirtyList = [3] ∧
      t.heat.budget = 16380 ∧ t.jrn.lastJsn = 2 := by decide

/-- Handle 0 lists a TRACKED record that a second write is to cut in its middle, its range the ninth stream's next. -/
def cutting : State :=
  { withWrite (part [{ tracked 0 0 6 with openWrites := 1, heat := 9 }] [5, 4] .stopped) (openedAt 0 6 [⟨0, false⟩]) with
    heat := { HeatUnit.reset with stream := [⟨2, 256⟩] } }

/-- A whole band of untracked grains, with exactly the slots it takes; a TRACKED record cut in its middle, another open
write listing it; and a pinned one cut at its end beside a record on flash. -/
theorem test_meets_WriteOpenAbsorbs :
    (let s := part [] (List.range 64) .stopped
     (s.serves .iLink 1 = true ∧ s.admits 64 64 = true ∧ s.supply.warning = false ∧
       (∀ r ∈ s.recordsMeeting 64 64, r.state ≠ .promoting) ∧ s.work.spindle ≠ .spinning ∧
       ((List.range' 64 64).filter (fun g => (s.flashAt g).isNone)).length ≤ s.pool.free.length ∧
       s.placesShort (s.absorbRuns 64 64) = false ∧ (s.routeChange 64 64 (s.absorbRuns 64 64)).fits = true ∧
       s.jrn.lastJsn ≤ 4294967295 ∧ s.writes.handles.length = 32 ∧ s.writes.freeHandle = some 0) ∧
      extentsSound s.records) ∧
    (let s := cutting
     (s.serves .iLink 1 = true ∧ s.admits 2 2 = true ∧ s.supply.warning = false ∧ s.placesShort (s.absorbRuns 2 2) = false ∧
       (s.routeChange 2 2 (s.absorbRuns 2 2)).fits = true ∧ s.writes.freeHandle = some 1 ∧
       s.openWrite 0 = some (openedAt 0 6 [⟨0, false⟩]) ∧ (s.recordOf 0).isSome ∧ s.isStreamed 2 2 = true ∧
       (s.heat.stream.map (fun e => e.next)).Nodup) ∧ extentsSound s.records) ∧
    (∀ rs ∈ [[tracked 0 0 6], [{ tracked 0 0 3 with pinned := true, heat := 9 }, mirrored 1 3 4 10]],
      let s := part rs [5, 4] .stopped
      s.serves .iLink 1 = true ∧ s.admits 2 2 = true ∧ s.supply.warning = false ∧
        (∀ r ∈ s.recordsMeeting 2 2, r.state ≠ .promoting) ∧ s.work.spindle ≠ .spinning ∧
        ((List.range' 2 2).filter (fun g => (s.flashAt g).isNone)).length ≤ s.pool.free.length ∧
        s.placesShort (s.absorbRuns 2 2) = false ∧ (s.routeChange 2 2 (s.absorbRuns 2 2)).fits = true ∧
        s.jrn.lastJsn ≤ 4294967295 ∧ s.writes.freeHandle = some 0) ∧
    extentsSound [tracked 0 0 6] ∧ extentsSound [{ tracked 0 0 3 with pinned := true, heat := 9 }, mirrored 1 3 4 10] :=
  ⟨⟨by decide, ⟨by decide, by decide, by decide⟩⟩, ⟨by decide, ⟨by decide, by decide, by decide⟩⟩, by decide,
    ⟨by decide, by decide, by decide⟩, ⟨by decide, by decide, by decide⟩⟩

/-- The upper piece is listed wherever the record cut was (R63); the record made takes its heat, streamed (R7, R37), and
counts the write that made it. -/
theorem test_writeOpen_lists :
    let t := after (.writeOpen 1 2 2 0) cutting
    t.records.map (fun r => (r.id, r.first, r.openWrites, r.heat)) = [(0, 0, 1, 9), (1, 2, 1, 9), (2, 4, 1, 9)] ∧
      ((t.openWrite 0).map (fun w => w.listings)) = some [⟨0, false⟩, ⟨2, false⟩] ∧
      ((t.openWrite 1).map (fun w => (w.listings, w.commitJsn))) = some ([⟨1, true⟩], 1) ∧
      t.heat.stream = [⟨4, 258⟩] := by decide

theorem test_writeOpen_cut :
    let t := after (.writeOpen 1 2 2 0) (part [tracked 0 0 6] [5, 4] .stopped)
    (t.records.map (fun r => (r.first, r.len, r.state, r.slots))) =
      [(0, 2, .tracked, []), (2, 2, .dirty, [5, 4]), (4, 2, .tracked, [])] := by decide

/-! ### Closing, discarding, pinning, synchronizing -/

/-- Handle 0 holds a write that made record 7 by absorption and wrote record 1. -/
def written : State :=
  withWrite
    (part
      [{ dirty 1 4 4 14 6 with openWrites := 1 }, { dirty 7 64 2 20 3 with openWrites := 1, absorbOpen := true }]
      [] .stopped)
    (openedAt 4 62 [⟨1, false⟩, ⟨7, true⟩])

theorem sound_written : extentsSound written.records := ⟨by decide, by decide, by decide⟩

/-- Two writes are open in handles 30 and 31. -/
def openTwice (s : State) : State :=
  let two : List Handle := List.replicate 2 { gen := 0, write := some (openedAt 200 1 []) }
  { s with writes := { s.writes with handles := s.writes.handles.take 30 ++ two } }

def twice : State := quiesced .retain false (openTwice written)

/-- A slot of no record met awaits retirement. -/
def elsewhere (s : State) : State := { s with pool := { s.pool with pendingRetire := [⟨99, .record 50⟩] } }

/-- A pinned record before one that is not. -/
def pinnedToo : List Rec := [{ mirrored 3 0 4 10 with pinned := true }, mirrored 1 4 4 14]

/-- RESUME. -/
def resuming (s : State) : State :=
  { s with recovery := { s.recovery with service := .recovering, phase := .resume } }

def blank : State :=
  { plain with recovery := { service := .blank, ringPages := 2048, phase := .none, format := none }, jrn := Journal.reset }

theorem test_meets_CloseAndDiscardRefusals :
    (written.serves .iLink 1 = true ∧ 31 < 32 ∧ 15 < 16 ∧ 1 < 2 ∧ written.openWrite 31 = none ∧
      (written.writes.get 0).gen ≠ 15) ∧
    ((faulted written).serves .iLink 1 = true ∧ (faulted written).openWrite 0 = written.openWrite 0 ∧
      ((faulted written).writes.get 0).gen = 0 ∧
      (faulted written).createdBy (openedAt 4 62 [⟨1, false⟩, ⟨7, true⟩]) ≠ [] ∧
      written.openWrite 0 = some (openedAt 4 62 [⟨1, false⟩, ⟨7, true⟩]) ∧ (faulted written).jrn.fault.isSome) ∧
    ((packed written).serves .iLink 1 = true ∧ (packed written).jrn.fault = none ∧
      ((packed written).closeChange (openedAt 4 62 [⟨1, false⟩, ⟨7, true⟩]) true).fits = false) ∧
    (written.admits 7 1 = true ∧ written.supply.warning = false ∧
      ∃ r ∈ written.records, r.first < 8 ∧ 7 < r.first + r.len ∧ 0 < r.openWrites) ∧
    (promoting.serves .iLink 1 = true ∧ promoting.admits 3 1 = true ∧
      (∀ r ∈ promoting.records, r.first < 4 → 3 < r.first + r.len → r.openWrites = 0) ∧
      (promoting.jobsMet 3 1).filter (fun j => promoting.jobIssued j) ≠ []) := by decide

/-- A DISCARD, a PIN and an UNPIN with an entry to place, in JOURNAL_FAULT and without room. -/
theorem test_meets_CloseAndDiscardRefusals_held :
    ∀ s ∈ [faulted (part pinnedToo [] .stopped), packed (part pinnedToo [] .stopped)],
      s.serves .iLink 1 = true ∧ s.admits 3 2 = true ∧ s.supply.warning = false ∧ s.jobsMet 3 2 = [] ∧
        (∀ r ∈ s.records, r.openWrites = 0) ∧ (s.gaps 3 2).length ≤ s.freePlaces ∧
        s.pinnedGrains + s.pinAdds 3 2 ≤ s.pinLimit ∧
        ∀ c ∈ [((s.recordsMeeting 3 2).map (fun r => r.id)).foldl (Change.discard 3 2) (Change.start s),
            s.pinChange 3 2, s.unpinChange 3 2],
          c.entries ≠ [] ∧ (s.jrn.fault.isSome ∨ (s.jrn.fault = none ∧ c.fits = false)) := by decide

theorem test_held :
    [Instr.discard 1 3 2 0, .pin 1 3 2 0, .unpin 1 3 2 0].map (fun i =>
        codes (after i (faulted (part pinnedToo [] .stopped)))) = [[.hold], [.hold], [.hold]] ∧
      [Instr.discard 1 3 2 0, .pin 1 3 2 0, .unpin 1 3 2 0].map (fun i =>
        codes (after i (packed (part pinnedToo [] .stopped)))) = [[.retry], [.retry], [.retry]] := by decide

theorem test_writeClose_refused :
    codes (after (.writeClose 1 32 0 0 0) written) = [.range] ∧ codes (after (.writeClose 1 0 1 0 0) written) = [.stale] ∧
      codes (after (.writeClose 1 0 0 0 0) (packed written)) = [.retry] ∧
      codes (after (.discard 1 7 1 0) written) = [.retry] := by decide

/-- OK and FAILED; and in a quiesce beside a second open write. -/
theorem test_meets_WriteCloses :
    (∀ s ∈ [written, twice, elsewhere written],
      s.serves .iLink 1 = true ∧ s.enduring = true ∧
        s.openWrite 0 = some (openedAt 4 62 [⟨1, false⟩, ⟨7, true⟩]) ∧ (s.writes.get 0).gen = 0 ∧
        (s.closeChange (openedAt 4 62 [⟨1, false⟩, ⟨7, true⟩]) true).fits = true ∧
        (s.closeChange (openedAt 4 62 [⟨1, false⟩, ⟨7, true⟩]) false).fits = true ∧
        s.jrn.lastJsn ≤ 4294967295 ∧ (∀ r ∈ s.records, s.unretired r = true) ∧ s.writes.handles.length = 32) ∧
    extentsSound written.records ∧ twice.records = written.records := ⟨by decide, sound_written, rfl⟩

theorem test_writeClose :
    (after (.writeClose 1 0 0 0 0) written).records.map (fun r => (r.openWrites, r.absorbOpen)) = [(0, false), (0, false)] ∧
      (after (.writeClose 1 0 0 1 0) written).records.map (fun r => r.id) = [1] ∧
      (after (.writeClose 1 0 0 1 0) written).pool.quarantine = [⟨20, 1, false⟩, ⟨21, 1, false⟩] := by decide

/-- The write at its timeout to the millisecond and one before, room and none, and a held one with room and without. -/
theorem test_meets_WriteTimesOut :
    let w := openedAt 4 62 [⟨1, false⟩, ⟨7, true⟩]
    let h := { w with held := true }
    let due := { written with now := 10000 }
    let early := { written with now := 9999 }
    let held := withWrite written h
    (due.awake = true ∧ due.enduring = true ∧ twice.awake = true ∧ twice.enduring = true ∧ due.openWrite 0 = some w ∧
      (∀ r ∈ due.records, (elsewhere due).unretired r = true) ∧ due.jrn.lastJsn ≤ 4294967295 ∧
      due.writes.handles.length = 32 ∧ w.held = false ∧ w.opened + due.params.writeTimeout ≤ due.now ∧
      (due.closeChange w true).fits = true ∧ ((packed due).closeChange w true).fits = false ∧
      (packed due).openWrite 0 = some w ∧ early.openWrite 0 = some w ∧
      early.now < w.opened + early.params.writeTimeout) ∧
    (held.awake = true ∧ held.enduring = true ∧ held.openWrite 0 = some h ∧ h.held = true ∧
      (held.closeChange h true).fits = true ∧ (packed held).openWrite 0 = some h ∧
      ((packed held).closeChange h true).fits = false) ∧ extentsSound written.records :=
  ⟨by decide, by decide, sound_written⟩

theorem test_writeTimeout :
    noticesOn (after (.writeTimeout 0 0) (written.setNow 10000)) .iLink = [.writeOrphan 0 0 4 62] ∧
      ((after (.writeTimeout 0 0) ((packed written).setNow 10000)).openWrite 0).map (fun w => w.held) = some true := by
  decide

theorem test_heldTimeoutClose :
    (after (.heldTimeoutClose 0 0) (withWrite written { openedAt 4 62 [⟨1, false⟩, ⟨7, true⟩] with held := true })).openWrite 0 =
      none := by decide

/-- A candidate whose heat falls short of a threshold of 100. -/
def headed : State :=
  { part [{ tracked 0 0 64 with heat := 50 }] [] .stopped with
    params := { Params.default with reserveSlots := 0, tPromote := 50 }
    plan := { Planner.reset with candidates := [⟨0, 50, false, 0⟩] } }

/-- 100 slots, of which 15 hold dirty grains. -/
def marked : State :=
  let s := part [dirty 1 0 15 20 0x7FFF] [] .stopped
  { s with map := { s.map with slotCount := 100 } }

/-- A write opened at 0 stands at 999 and at 1,000 ms, the timeout to be sent 1,000; a candidate of density 0; a part of 100
slots with 15 dirty grains, the high mark sent 15 percent; and the levels of a warning. -/
theorem test_meets_SetParamActs_judged :
    (∀ n ∈ [999, 1000], (written.setNow n).ready .iLink 1 = true ∧ (written.setNow n).steady = true ∧
      (written.setNow n).calm = true ∧ (written.setNow n).supply.mode = .run ∧
      (written.setNow n).writes.handles.length = 32 ∧ (written.setNow n).openWrite 0 =
        some (openedAt 4 62 [⟨1, false⟩, ⟨7, true⟩])) ∧
    Param.ofCode 1 = some .tPromote ∧ headed.ready .iLink 1 = true ∧ headed.steady = true ∧ headed.calm = true ∧
      headed.plan.candidates ≠ [] ∧
    Param.ofCode 11 = some .dirtyHigh ∧ marked.ready .iLink 1 = true ∧ marked.steady = true ∧ marked.calm = true ∧
      marked.marksKnown = true ∧ marked.plan.armed = true ∧ marked.dirtyGrains = 15 ∧ plain.supply.pfwnLow = false ∧
    (∀ b ∈ [false, true],
      let s : State := { plain with supply := { plain.supply with vdd := 4500, warning := b } }
      s.ready .iLink 1 = true ∧ s.steady = true ∧ s.calm = true ∧ s.supply.warning = b) := by decide

set_option maxRecDepth 2048 in
/-- The timeouts made by SET_PARAM, the timeout sent 1,000 ms. -/
theorem test_setParam_times_out :
    ((after (.setParam .iLink 1 10 1000 0) (written.setNow 999)).openWrite 0).isSome ∧
      (after (.setParam .iLink 1 10 1000 0) (written.setNow 1000)).openWrite 0 = none := by decide

/-- Two heads that fail leave, the third stays (R95). -/
theorem test_headCheck :
    (after (.setParam .iLink 1 1 100 0)
      { part [{ tracked 0 0 64 with heat := 50 }, { tracked 1 64 64 with heat := 99 }, { tracked 2 128 64 with heat := 100 },
          { tracked 3 192 64 with heat := 60 }] [] .stopped with
        plan := { Planner.reset with candidates := [⟨0, 50, false, 0⟩, ⟨1, 99, false, 1⟩, ⟨2, 100, false, 2⟩, ⟨3, 60, false, 3⟩] }
        }).plan.candidates.map (fun c => c.record) = [2, 3] := by decide

/-- The head check, the high mark and the warning, judged as a SET_PARAM is taken. -/
theorem test_setParam_acts :
    (after (.setParam .iLink 1 1 100 0) headed).plan.candidates = [] ∧
      noticesOn (after (.setParam .iLink 1 11 15 0) marked) .dLink = [.spinWanted .dirtyHigh] ∧
      noticesOn (after (.setParam .iLink 1 14 2 0) { plain with supply := { plain.supply with vdd := 4500 } }) .fLink =
        [.powerWarnStart false true] := by decide

/-- A record covered whole, one at its start, one at its end, and one in its middle. -/
def discarded : State := part [mirrored 0 0 2 10, dirty 1 2 4 12 9, tracked 2 6 8] [] .stopped

theorem test_meets_DiscardTakes :
    (discarded.serves .iLink 1 = true ∧ discarded.admits 1 4 = true ∧ discarded.admits 8 2 = true ∧
      discarded.supply.warning = false ∧ discarded.jobsMet 1 4 = [] ∧ discarded.jobsMet 8 2 = [] ∧
      (∀ r ∈ discarded.records, r.openWrites = 0 ∧ r.state ≠ .promoting ∧ r.state ≠ .writingBack) ∧
      (((discarded.recordsMeeting 1 4).map (fun r => r.id)).foldl (Change.discard 1 4) (Change.start discarded)).fits =
        true ∧
      (((discarded.recordsMeeting 8 2).map (fun r => r.id)).foldl (Change.discard 8 2) (Change.start discarded)).fits =
        true ∧
      (∀ r ∈ discarded.records, (elsewhere discarded).unretired r = true) ∧ discarded.jrn.lastJsn ≤ 4294967295) ∧ extentsSound discarded.records :=
  ⟨by decide, ⟨by decide, by decide, by decide⟩⟩

/-- The words that a DISCARD's reads correct are counted, refused by its checks or not, but not where the service-state
table refuses it (R189; log 7). -/
theorem test_discard_corrects :
    [(1, discarded), (66, discarded), (1, State.reset)].map (fun x =>
        (after (.discard 1 1 x.1 3) x.2).supply.corrected) = [3, 3, 0] := by decide

theorem test_discard :
    (after (.discard 1 1 4 0) discarded).records.map (fun r => (r.first, r.len, r.slots)) =
      [(0, 1, [10]), (5, 1, [15]), (6, 8, [])] ∧
    (after (.discard 1 8 2 0) discarded).records.map (fun r => (r.first, r.len)) = [(0, 2), (2, 4), (6, 8)] := by decide

/-- The part whose pin limit is 4 grains: 16 slots at 25 percent. -/
def tight : State := { mixedPart with map := { mixedPart.map with slotCount := 16 } }

theorem test_meets_PinsAndUnpins :
    (let s := crammed 16384
     s.serves .iLink 1 = true ∧ s.admits 40000 1 = true ∧ s.supply.warning = false ∧ s.jrn.lastJsn ≤ 4294967295 ∧
       16384 - s.records.length < (s.gaps 40000 1).length ∧ extentsSound s.records) ∧
    ((tight.serves .iLink 1 = true ∧ tight.admits 0 5 = true ∧ tight.supply.warning = false ∧
      tight.jrn.lastJsn ≤ 4294967295 ∧ (tight.gaps 0 5).length ≤ 16384 - tight.records.length ∧
      (let adds := ((tight.records.filter (fun r => decide (r.first < 5 ∧ 0 < r.first + r.len) && !r.pinned)).map
         (fun r => r.len)).sum + (List.range' 0 5).countP (fun g => (tight.recordAt g).isNone)
       0 < adds ∧ (tight.map.slotCount - tight.pool.retired.length) * tight.params.pinPercent / 100 <
         tight.pinnedGrains + adds)) ∧ extentsSound tight.records) ∧
    ((tight.admits 0 4 = true ∧ (tight.gaps 0 4).length ≤ 16384 - tight.records.length ∧
      tight.pinnedGrains + 4 ≤ (tight.map.slotCount - tight.pool.retired.length) * tight.params.pinPercent / 100 ∧
      (tight.pinChange 0 4).fits = true) ∧
     (mixedPart.serves .iLink 1 = true ∧ mixedPart.admits 0 64 = true ∧ (mixedPart.unpinChange 0 64).fits = true ∧
       ∀ r ∈ mixedPart.records, (elsewhere mixedPart).isRetiring r.id = false)) := by
  refine ⟨?_, ⟨by decide, test_sound_mixed⟩, by decide, by decide⟩
  have a : ∀ n, (crammed n).admits 40000 1 = true := fun _ => rfl
  have g : ∀ n, 2 * n ≤ 40000 → (crammed n).gaps 40000 1 = [(40000, 1)] := by
    intro n h
    simp [State.gaps, grainRuns, crammed_recordAt h]
  have l : ∀ n, (crammed n).jrn.lastJsn = 0 := fun _ => rfl
  have w : ∀ n, (crammed n).supply.warning = false := fun _ => rfl
  refine ⟨crammed_serves _, a _, w _, by rw [l]; exact Nat.zero_le _, ?_, sound_crammed (Nat.le_refl _)⟩
  rw [crammed_length, g _ (by decide)]
  decide

theorem test_pin :
    codes (after (.pin 1 0 5 0) tight) = [.limit] ∧
      (after (.pin 1 58 4 0) mixedPart).records.map (fun r => (r.first, r.len, r.pinned)) =
        [(0, 4, false), (4, 4, false), (58, 2, true), (60, 4, true), (64, 1, false)] ∧
      (after (.pin 1 58 4 0) mixedPart).jrn.lastJsn = 2 := by decide

theorem test_unpin :
    let s := part [{ mirrored 0 0 4 10 with pinned := true }] [] .stopped
    (after (.unpin 1 3 1 0) s).records.map (fun r => r.pinned) = [false] ∧ (after (.unpin 1 3 1 0) s).jrn.lastJsn = 1 := by
  decide

/-- One entry is not durable yet. -/
def unsynced : State := { plain with jrn := { Journal.reset with lastJsn := 1, page := some usedPage } }

theorem test_meets_SyncAnswers :
    plain.serves .iLink 1 = true ∧ jsnLe plain.jrn.lastJsn plain.jrn.durableJsn = true ∧
      unsynced.serves .iLink 1 = true ∧ jsnLe unsynced.jrn.lastJsn unsynced.jrn.durableJsn = false ∧
      (faulted unsynced).serves .iLink 1 = true ∧ (faulted unsynced).jrn.fault.isSome ∧ unsynced.jrn.fault = none := by
  decide

/-- A promotion and a write-back whose orders wait, on the two records that a request of grains 2 to 5 meets. -/
def waitingJobs : State :=
  let rs : List Rec := [{ tracked 0 0 4 with state := .promoting, heat := 4000 }, { dirty 1 4 4 10 3 with state := .writingBack }]
  let back : Job := { id := 1, kind := .writeback 3, record := 1, first := 4, len := 4, stage := .one, cancel := false
                      attempts := 0 }
  let s := part rs (List.range' 50 8) .stopped
  { s with work := { s.work with
    jobs := [promotion 0 0 0 4 .one, back], dQueue := [⟨0, .platterRead 0 0 4⟩], migQueue := [⟨1, .slotRead 1 3 [10, 11]⟩] } }

theorem test_meets_WaitingJobsGiveWay :
    let s := waitingJobs
    (s.serves .iLink 1 = true ∧ s.admits 2 4 = true ∧ s.supply.warning = false ∧
      (s.work.jobs.map (fun j => j.id)).Nodup ∧ (s.work.jobs.map (fun j => j.record)).Nodup ∧
      (∀ j ∈ s.jobsMet 2 4, s.jobIssued j = false) ∧ (∀ x ∈ (elsewhere s).pool.pendingRetire, x.slot ∉ List.range' 30 4) ∧ (s.promotionsMet 2 4).length = 1 ∧ (s.jobsMet 2 4).length = 2 ∧
      s.writes.freeHandle ≠ none ∧ s.plan.candidates.length + 2 ≤ 64 ∧
      (let u := s.cancelJobs (s.promotionsMet 2 4)
       ((u.absorbRuns 2 4).map (fun a => a.count)).sum ≤ u.pool.free.length ∧ u.placesShort (u.absorbRuns 2 4) = false ∧
         (u.routeChange 2 4 (u.absorbRuns 2 4)).fits = true) ∧
      (∀ r ∈ s.records, r.openWrites = 0) ∧
      (let u := s.cancelJobs (s.jobsMet 2 4)
       (((u.recordsMeeting 2 4).map (fun r => r.id)).foldl (Change.discard 2 4) (Change.start u)).fits = true)) ∧
    extentsSound s.records := ⟨by decide, ⟨by decide, by decide, by decide⟩⟩

theorem test_jobs_give_way :
    (let t := after (.writeOpen 1 2 4 0) waitingJobs
     t.work.jobs.map (fun j => j.id) = [1] ∧ t.work.dQueue = [] ∧ codes t = [.ok]) ∧
    (let t := after (.discard 1 2 4 0) waitingJobs
     t.work.jobs = [] ∧ t.work.migQueue = [] ∧ t.records.map (fun r => (r.state, r.first, r.len)) =
       [(.tracked, 0, 2), (.mirrored, 6, 2)]) := by decide

theorem test_sync :
    bodies (after (.sync 1 0) plain) = [.jsn 0] ∧ (after (.sync 1 0) unsynced).sent = [] ∧
      (after (.sync 1 0) unsynced).work.pageQueue.length = 1 := by decide

/-! ### Slots, orders and jobs -/

/-- The last slot and the first number beyond; slots on their way out; a free and a quarantined slot; slots held by a
MIRRORED record, a pinned one and a DIRTY one. -/
def retiring : State :=
  { part [mirrored 3 0 4 10, { mirrored 0 4 1 17 with pinned := true }, dirty 1 5 4 20 6] [30, 1023] .stopped with
    pool :=
      { free := [30, 1023], quarantine := [⟨40, 0, true⟩, ⟨41, 0, false⟩], retired := [50], pendingRetire := [] } }

/-- The slots of a promotion, its order waiting and issued. -/
def reserving (issued : Bool) : State :=
  let s := part [{ tracked 0 0 4 with state := .promoting }] [9] .stopped
  { s with work := { s.work with
    jobs := [promotion 0 0 0 4 .one]
    dQueue := if issued then [] else [⟨0, .platterRead 0 0 4⟩]
    dIssued := if issued then [⟨0, .platterRead 0 0 4⟩] else [] } }

theorem test_meets_RetireDisposes :
    (retiring.serves .fLink 1 = true ∧ retiring.jrn.lastJsn ≤ 4294967295 ∧ retiring.map.slotCount = 1024 ∧
      retiring.pool.retired.contains 50 = true ∧ retiring.pool.quarantine.any (fun q => q.slot = 40 && q.retire) = true ∧
      (warned retiring).serves .fLink 1 = true ∧ retiring.supply.warning = false ∧
      retiring.canTake false [.slotRetire 1023] = true ∧ retiring.pool.free.contains 1023 = true ∧
      retiring.pool.free.contains 41 = false ∧ retiring.pool.quarantine.any (fun q => q.slot = 41) = true ∧
      retiring.pool.pendingRetire = []) ∧ extentsSound retiring.records ∧
    (∀ n ∈ [13, 17, 20],
      (retiring.pool.retired.contains n || retiring.pool.pendingRetire.any (fun x => x.slot = n) ||
        retiring.pool.quarantine.any (fun q => q.slot = n && q.retire)) = false ∧
      retiring.pool.free.contains n = false ∧ retiring.pool.quarantine.any (fun q => q.slot = n) = false ∧
      retiring.reservedBy n = none) ∧
    retiring.heldBy 13 = some (mirrored 3 0 4 10) ∧ (retiring.retireHeld 13 (mirrored 3 0 4 10)).fits = true ∧
    retiring.heldBy 17 = some { mirrored 0 4 1 17 with pinned := true } ∧ retiring.heldBy 20 = some (dirty 1 5 4 20 6) :=
  ⟨by decide, ⟨by decide, by decide, by decide⟩, by decide, by decide, by decide, by decide, by decide⟩

/-- A disposal with an entry in JOURNAL_FAULT and without room; a reserved slot, its order waiting and issued. -/
theorem test_meets_RetireDisposes_more :
    (∀ s ∈ [faulted retiring, packed retiring], ∀ n ∈ [30, 41, 13],
      s.serves .fLink 1 = true ∧ s.jrn.lastJsn ≤ 4294967295 ∧ n < s.map.slotCount ∧ s.supply.warning = false ∧
        (s.retireChange n).any (fun c => decide (c.entries ≠ []) && (s.jrn.fault.isSome || !c.fits)) = true) ∧
    ∀ b ∈ [false, true],
      (reserving b).serves .fLink 1 = true ∧ (reserving b).jrn.lastJsn ≤ 4294967295 ∧
        31 < (reserving b).map.slotCount ∧ (reserving b).supply.warning = false ∧
        (reserving b).pool.free.contains 31 = false ∧ (reserving b).pool.quarantine = [] ∧
        (reserving b).reservedBy 31 = some (promotion 0 0 0 4 .one) ∧ (reserving b).enduring = true ∧
        (promotion 0 0 0 4 .one).kind = .promote [30, 31, 32, 33] ∧ (reserving b).canTake false [.slotRetire 31] = true ∧
        (reserving b).pool.pendingRetire = [] ∧ (reserving b).jobIssued (promotion 0 0 0 4 .one) = b := by decide

theorem test_retire_more :
    codes (after (.retire 1 13 0) (faulted retiring)) = [.hold] ∧ codes (after (.retire 1 13 0) (packed retiring)) = [.retry] ∧
      (let t := after (.retire 1 31 0) (reserving false)
       bodies t = [.retired .retired 1] ∧ t.pool.free = [9, 30, 32, 33] ∧ t.pool.retired = [31] ∧ t.work.dQueue = []) ∧
      (let t := after (.retire 1 31 0) (reserving true)
       bodies t = [.retired .pending 1] ∧ t.work.jobs.map (fun j => j.cancel) = [true] ∧
         t.pool.pendingRetire = [⟨31, .job 0⟩]) := by decide

theorem test_retire :
    codes (after (.retire 1 1024 0) retiring) = [.range] ∧ bodies (after (.retire 1 50 0) retiring) = [.retired .already 0] ∧
      bodies (after (.retire 1 17 0) retiring) = [.retired .pending 0] ∧
      (after (.retire 1 1023 0) retiring).pool.retired = [50, 1023] := by decide

/-- Codes 3 and 4; a state repeated and a state changed, in SERVING and in RESUME. -/
theorem test_meets_SpindleRecords :
    (∀ s ∈ [mixedPart, resuming mixedPart], s.ready .dLink 15 = true ∧ s.steady = true ∧ s.calm = true ∧
      s.recovery.service ≠ .waiting ∧ (s.port .dLink).notices.Pairwise (fun a b => a.code < b.code) ∧
      s.work.spindle = .stopped ∧ s.work.spindle ≠ .parked) ∧
    mixedPart.marksKnown = true ∧ (resuming mixedPart).marksKnown = true ∧ blank.marksKnown = false := by decide

/-- A SPINDLE in RESUME has the arming judged; one in BLANK does not. -/
theorem test_spindle_resume :
    noticesOn (after (.spindle 1 2 0) (resuming { marked with
        params := { marked.params with dirtyHigh := 15, dirtyLow := 10 }, work := { marked.work with spindle := .spinning } }))
        .dLink = [.spinWanted .dirtyHigh] ∧
      noticesOn (after (.spindle 1 3 0) blank) .dLink = [] := by decide

theorem test_spindle :
    codes (after (.spindle 1 4 0) mixedPart) = [.range] ∧ (after (.spindle 1 3 0) mixedPart).work.spindle = .parked ∧
      noticesOn (after (.spindle 1 0 0) { plain with work := { plain.work with
        dQueue := [⟨0, .platterRead 0 0 4⟩, ⟨1, .platterRead 1 4 4⟩] } }) .dLink = [.ordersReady 2] := by decide

/-- An issued set at its depth; an empty queue; and an order one below the depth, of each link. -/
def queued (sp : Spindle) : State :=
  { plain with work := { plain.work with
    spindle := sp, dQueue := [⟨0, .platterRead 0 0 4⟩], migQueue := [⟨1, .slotWrite 1 [5]⟩], pageQueue := [⟨8, .pageRead 0⟩]
    dIssued := [⟨2, .platterRead 2 4 4⟩], fIssued := [⟨3, .slotWrite 3 [6]⟩] } }

theorem test_meets_FetchHands :
    (queued .spinning).ready .dLink 15 = true ∧ (queued .spinning).ready .fLink 15 = true ∧
      (queued .spinning).steady = true ∧ (queued .spinning).calm = true ∧
      (queued .spinning).recovery.service ≠ .waiting ∧
      ((queued .spinning).issued .dLink).length < (queued .spinning).params.issueDepthD ∧
      ((queued .spinning).issued .fLink).length < (queued .spinning).params.issueDepthF ∧
      (let s := { queued .spinning with params := { Params.default with issueDepthD := 1, issueDepthF := 1 } }
       s.ready .dLink 15 = true ∧ s.params.issueDepthD ≤ (s.issued .dLink).length ∧
         s.params.issueDepthF ≤ (s.issued .fLink).length) ∧
      plain.ready .dLink 15 = true ∧ plain.work.dQueue = [] := by decide

theorem test_fetch :
    bodies (after (.fetch .dLink 1 0) (queued .spinning)) = [.order 0 0 (.platterRead 0 0 4)] ∧
      bodies (after (.fetch .dLink 1 0) (queued .stopped)) = [.empty] ∧
      bodies (after (.fetch .fLink 1 0) (queued .stopped)) = [.order 8 0 (.pageRead 0)] := by decide

/-- Order 0 issued on the D-link for a promotion of record 0, and a fence on window 3 of order 3. -/
def fenced : State :=
  { promoting with work := { promoting.work with windowFences := [⟨3, .dLink, 3, 5⟩] } }

theorem test_meets_FinishRefusals :
    fenced.ready .dLink 15 = true ∧ (Request.finish 32 16 3 none).fits = true ∧ (Request.finish 3 5 0 none).fits = true ∧
      fenced.steady = true ∧ fenced.calm = true ∧ fenced.recovery.service ≠ .waiting ∧
      (∃ w ∈ fenced.work.windowFences, w.link = .dLink ∧ w.order = 3 ∧ w.gen = 5) ∧
      (∀ w ∈ fenced.work.windowFences, ¬(w.link = .dLink ∧ w.order = 0 ∧ w.gen = 1)) ∧ fenced.work.pageFences = [] ∧
      (∀ o ∈ fenced.issued .dLink, o.id = 0 → fenced.genOf 0 ≠ 1) ∧
      fenced.issuedOrder .dLink 0 0 = some ⟨0, .platterRead 0 0 4⟩ := by decide

theorem test_finish_refused :
    codes (after (.finish .dLink 1 32 0 0 none 0) fenced) = [.range] ∧
      codes (after (.finish .dLink 1 3 5 0 none 0) fenced) = [.stale] ∧
      (after (.finish .dLink 1 3 5 0 none 0) fenced).work.windowFences = [] ∧
      codes (after (.finish .dLink 1 0 1 0 none 0) fenced) = [.stale] := by decide

/-- One PROMOTE job or one WRITE_BACK job, its order issued, in a stage and with a count of ABORTED. -/
def jobAt (stage : Stage) (aborted : Nat) (cancel : Bool) : State :=
  let j := { promotion 0 0 0 4 stage with attempts := aborted, cancel := cancel }
  if stage = .one then withJob (part [{ tracked 0 0 4 with state := .promoting }] [9] .stopped) j [⟨0, .platterRead 0 0 4⟩] []
  else
    withJob (part [{ tracked 0 0 4 with state := .promoting }] [9] .stopped) j [] [⟨0, .slotWrite 0 [30, 31, 32, 33]⟩]

def writingBack (stage : Stage) (rewrite : Mask) : State :=
  let r := { dirty 0 0 4 10 7 with state := .writingBack, rewrite := rewrite, attempts := 2 }
  let j : Job := { id := 0, kind := .writeback 3, record := 0, first := 0, len := 4, stage := stage, cancel := false
                   attempts := 0 }
  if stage = .one then withJob (part [r] [] .spinning) j [] [⟨0, .slotRead 0 3 [10, 11, 12, 13]⟩]
  else withJob (part [r] [] .spinning) j [⟨0, .platterWrite 0 0 4 3⟩] []

theorem sound_jobAt (st : Stage) (n : Nat) (c : Bool) : extentsSound (jobAt st n c).records := by
  have : (jobAt st n c).records = [{ tracked 0 0 4 with state := .promoting }] := by cases st <;> rfl
  rw [this]
  exact ⟨by decide, by decide, by decide⟩

/-- The second slot of the reservation awaits retirement. -/
def reservedOut (s : State) : State := { s with pool := { s.pool with pendingRetire := [⟨31, .job 0⟩] } }

/-- A cancelled job, one whose reservation gives a slot up, one under the warning, one in a quiesce beside two open
writes, a third ABORTED, a second one, and stage 1 done. -/
theorem test_meets_JobOutcomes :
    (∀ s ∈ [jobAt .one 0 true, reservedOut (jobAt .one 0 true), warned (jobAt .one 0 false), quiesced .retain false (openTwice (jobAt .one 0 false)),
        jobAt .one 2 false, jobAt .one 1 false, jobAt .one 0 false],
      s.ready .dLink 1 = true ∧ s.enduring = true ∧ s.calm = true ∧ s.recovery.service ≠ .waiting ∧
        s.fenceMet .dLink 0 0 = false ∧ s.issuedOrder .dLink 0 0 = some ⟨0, .platterRead 0 0 4⟩ ∧
        (s.jobOf 0).isSome ∧ s.work.gens.length = 32 ∧
        (s.work.jobs.map (fun x => x.id)).Nodup ∧ s.jrn.images = []) ∧
    (quiesced .retain false (openTwice (jobAt .one 0 false))).withdrawing = true ∧
    (let s := writingBack .one 8
     s.ready .fLink 1 = true ∧ s.enduring = true ∧ s.calm = true ∧ s.fenceMet .fLink 0 0 = false ∧
       s.issuedOrder .fLink 0 0 = some ⟨0, .slotRead 0 3 [10, 11, 12, 13]⟩ ∧ (s.jobOf 0).isSome) ∧
    ∀ st n c, extentsSound (jobAt st n c).records := ⟨by decide, by decide, by decide, sound_jobAt⟩

theorem test_finish_retires :
    (let t := after (.finish .dLink 1 0 0 1 none 3) (reservedOut (jobAt .one 0 true))
     t.pool.free = [9, 30, 32, 33] ∧ t.pool.retired = [31] ∧ t.pool.pendingRetire = [] ∧ t.supply.corrected = 3) := by
  decide

theorem test_finish_job :
    (after (.finish .dLink 1 0 0 1 none 0) (jobAt .one 0 false)).pool.free = [9, 30, 31, 32, 33] ∧
      (after (.finish .dLink 1 0 0 2 none 0) (jobAt .one 1 false)).work.dQueue = [⟨0, .platterRead 0 0 4⟩] ∧
      (after (.finish .dLink 1 0 0 0 none 0) (jobAt .one 0 false)).work.migQueue = [⟨0, .slotWrite 0 [30, 31, 32, 33]⟩] ∧
      (after (.finish .fLink 1 0 0 1 none 0) (writingBack .one 8)).records.map (fun r => (r.state, r.dirty, r.attempts)) =
        [(.dirty, 15, 3)] := by decide

/-- Stage 2 done with room for the entry and without; a COMPLETING job with room and without. -/
theorem test_meets_JobCompletes :
    let j : Job := promotion 0 0 0 4 .two
    let k : Job := promotion 0 0 0 4 .completing
    let waiting := { part [{ tracked 0 0 4 with state := .promoting }] [9] .stopped with
      work := { Work.reset with jobs := [k], completing := [0] } }
    (∀ s ∈ [jobAt .two 0 false, packed (jobAt .two 0 false), quiesced .hibernate false (openTwice (jobAt .two 0 false))],
      s.enduring = true ∧ s.calm = true ∧ (elsewhere s).isRetiring 0 = false ∧
        (s.work.jobs.map (fun x => x.id)).Nodup ∧ (∃ r ∈ s.records, r.id = j.record) ∧ s.jrn.lastJsn ≤ 4294967295 ∧ s.ready .fLink 1 = true ∧
        s.recovery.service ≠ .waiting ∧ s.fenceMet .fLink 0 0 = false ∧
        s.issuedOrder .fLink 0 0 = some ⟨0, .slotWrite 0 [30, 31, 32, 33]⟩ ∧ s.jobOf 0 = some j) ∧
    ((jobAt .two 0 false).completionChange j).fits = true ∧ ((packed (jobAt .two 0 false)).completionChange j).fits = false ∧
    (∀ s ∈ [waiting, packed waiting],
      s.awake = true ∧ s.enduring = true ∧ s.calm = true ∧ s.work.completing.head? = some 0 ∧ s.jobOf 0 = some k) ∧
    (waiting.completionChange k).fits = true ∧ ((packed waiting).completionChange k).fits = false := by decide

theorem test_completingJobCompletion :
    let k := promotion 0 0 0 4 .completing
    let waiting := { part [{ tracked 0 0 4 with state := .promoting }] [9] .stopped with
      work := { Work.reset with jobs := [k], completing := [0] } }
    (after (.completingJobCompletion 0) waiting).records.map (fun r => (r.state, r.slots)) = [(.mirrored, [30, 31, 32, 33])] := by
  decide

/-- An image of no bytes is a FINISH without an image (11.1). -/
theorem test_finish_without_image :
    codes (after (.finish .dLink 1 0 0 1 (some []) 0) (jobAt .one 0 false)) = [.ok] := by decide

theorem test_writeback_completes :
    (after (.finish .dLink 1 0 0 0 none 0) (writingBack .two 0)).records.map (fun r => (r.state, r.dirty)) = [(.dirty, 4)] := by
  decide

/-- The page of PSN 0, one entry, issued under order 8; a SYNC waits on its entry and a slot is keyed by it. -/
def paged (failures : Nat) : State :=
  let p : Page := { psn := 0, firstJsn := 1, epoch := 0, tail := 0, slotCount := 1024, diskGrains := 65536
                    entries := [.slotRetire 9] }
  { (plain.setPort .iLink { Port.reset with accepted := [{ listed .sync 4 with standing := .syncWaits 1 }] }) with
    pool := { SlotPool.reset with quarantine := [⟨5, 1, false⟩, ⟨6, 1, true⟩, ⟨7, 2, false⟩] }
    work := { Work.reset with fIssued := [⟨8, .pageWrite 0 p⟩] }
    jrn := { Journal.reset with
      lastJsn := 1, page := some { usedPage with unemitted := 0, linger := none }
      images := [{ page := p, state := .issued 8 }]
      attempts := if failures = 0 then [] else [⟨0, failures⟩] } }

/-- A page reported DONE, once failed and twice failed, in RUN, in JOURNAL_FAULT and in a quiesce beside two open writes,
where a POWER waits. -/
theorem test_meets_PageWriteOutcomes :
    (∀ n ∈ [0, 1, 2], ∀ s ∈ [paged n, faulted (paged n), quiesced .retain false (openTwice (paged n))],
      s.serves .fLink 1 = true ∧ s.enduring = true ∧ s.fenceMet .fLink 8 0 = false ∧
      (s.issuedOrder .fLink 8 0).isSome ∧ s.recovery.format = none ∧ s.recovery.phase = .none ∧
      (s.jrn.attemptsOf 0 + 1 < 3 ↔ n < 2)) ∧
    (paged 0).jrn.durableJsn ≤ 4294967295 ∧ (paged 0).jrn.written = [] := by decide

theorem test_finish_page :
    let t := after (.finish .fLink 1 8 0 0 none 0) (paged 0)
    t.jrn.durableJsn = 1 ∧ t.pool.free = [5] ∧ t.pool.retired = [6] ∧ codes t = [.ok, .ok] ∧
      (after (.finish .fLink 1 8 0 1 none 0) (paged 2)).jrn.fault = some ⟨0, 1⟩ ∧
      codes (after (.finish .fLink 1 8 0 1 none 0) (paged 2)) = [.hold, .ok] := by decide

/-- In JOURNAL_FAULT a DONE still raises the durable JSN (log 54); a third failure ends a quiesce (R179). -/
theorem test_finish_page_fault :
    (after (.finish .fLink 1 8 0 0 none 0) (faulted (paged 0))).jrn.durableJsn = 1 ∧
      (after (.finish .fLink 1 8 0 1 none 0) (quiesced .retain false (openTwice (paged 2)))).supply.mode = .run := by decide

/-- R152: a page at or behind the failed one raises nothing, and its run waits for the reset; the page before it, finished
then, raises the durable JSN to its own last entry, though a run behind it follows without a gap. A second failed page
behind the first keeps the bound (log 15). -/
theorem test_fault_bounds :
    let finish := fun (s : State) => (after (.finish .fLink 1 8 0 0 none 0) s).jrn
    let s := faulted (paged 0)
    let behind := finish { s with jrn := { s.jrn with fault := some ⟨1, 1⟩ } }
    let before := finish { s with jrn := { s.jrn with written := [⟨2, 3⟩] } }
    (behind.durableJsn, behind.written) = (0, [⟨1, 1⟩]) ∧ (before.durableJsn, before.written) = (1, [⟨2, 3⟩]) ∧
      (finish { s with jrn := { s.jrn with written := [⟨2, 3⟩], fault := none } }).durableJsn = 4 ∧
      (s.jrn.faultBound 3, s.jrn.faultBound 1) = (2, 1) ∧ (s.jrn.warm 0).fault = none := by decide

/-- A pass that began in page 3, ended with its CKPT_END under JSN `last`. -/
def endedPass (last : Nat) : Pass := { number := 1, beginPsn := 3, phase := .ended last, answers := true }

def withPass (last : Nat) (s : State) : State := { s with jrn := { s.jrn with lastJsn := 2, pass := some (endedPass last) } }

/-- The page reaches JSN 1: the pass whose CKPT_END it is, and one whose CKPT_END lies behind it, in RUN, in a quiesce
that waits for it, and in JOURNAL_FAULT. -/
theorem test_meets_PageWriteOutcomes_pass :
    ∀ last ∈ [1, 2], ∀ s ∈ [withPass last (paged 0), withPass last (quiesced .hibernate false (openTwice (paged 0))),
        faulted (withPass last (paged 0))],
      s.serves .fLink 1 = true ∧ s.enduring = true ∧ s.fenceMet .fLink 8 0 = false ∧ (s.issuedOrder .fLink 8 0).isSome ∧
        s.recovery.format = none ∧ s.recovery.phase = .none ∧ s.jrn.pass = some (endedPass last) := by decide

/-- R155: the tail moves to the page of CKPT_BEGIN, and the quiesce is told; R157: not in JOURNAL_FAULT. -/
theorem test_finish_pass :
    let t := after (.finish .fLink 1 8 0 0 none 0) (withPass 1 (quiesced .hibernate false (openTwice (paged 0))))
    t.jrn.pass = none ∧ t.jrn.tail = 3 ∧ t.supply.mode = .quiescing .hibernate false true ∧
      (after (.finish .fLink 1 8 0 0 none 0) (withPass 2 (paged 0))).jrn.tail = 0 ∧
      (let u := after (.finish .fLink 1 8 0 0 none 0) (faulted (withPass 1 (paged 0)))
       u.jrn.durableJsn = 1 ∧ u.jrn.pass = some (endedPass 1) ∧ u.jrn.tail = 0) := by decide

/-- The page of PSN 0 in RESTATE, the pass ended with its CKPT_END under JSN `last`. -/
def restating (last : Nat) : State :=
  let s := paged 0
  { s with
    recovery := { s.recovery with service := .recovering, phase := .restate }
    params := { s.params with reserveSlots := 1000 }
    jrn := { s.jrn with lastJsn := 2, pass := some { number := 1, beginPsn := 0, phase := .ended last, answers := false } } }

/-- The page reaches JSN 1: the pass whose CKPT_END it is, and one whose CKPT_END lies behind it; and both in
JOURNAL_FAULT. -/
theorem test_meets_PageWriteOutcomes_restate :
    ∀ last ∈ [1, 2], ∀ s ∈ [restating last, faulted (restating last)],
      s.ready .fLink 1 = true ∧ s.supply.mode = .run ∧ s.recovery.service = .recovering ∧ s.recovery.phase = .restate ∧
      s.recovery.format = none ∧ s.fenceMet .fLink 8 0 = false ∧ (s.issuedOrder .fLink 8 0).isSome ∧
      s.jrn.pass = some { number := 1, beginPsn := 0, phase := .ended last, answers := false } := by decide

/-- R171: the part serves once the CKPT_END is durable, RESERVE_SLOTS at a quarter of 1,024 slots. -/
theorem test_finish_restated :
    let t := after (.finish .fLink 1 8 0 0 none 0) (restating 1)
    t.recovery.service = .serving ∧ t.params.reserveSlots = 256 ∧ noticesOn t .iLink = [.recoveryDone 2] ∧
      (after (.finish .fLink 1 8 0 0 none 0) (restating 2)).recovery.phase = .restate := by decide

/-- R171: in JOURNAL_FAULT the part stays in RECOVERING. R113: where no slot retires, SPIN_WANTED is left to the entry
to SERVING, though the dirty grains stand at the high mark. -/
theorem test_restate_holds :
    (let t := after (.finish .fLink 1 8 0 0 none 0) (faulted (restating 1))
     t.recovery = (restating 1).recovery ∧ t.jrn.durableJsn = 1 ∧ (t.jrn.pass.map (fun p => p.phase)) = some (.ended 1)) ∧
    (let s := restating 2
     let t := after (.finish .fLink 1 8 0 0 none 0) { s with
       pool := { s.pool with quarantine := [⟨5, 1, false⟩] }, map := { s.map with records := [dirty 0 0 1 9 1], slotCount := 1 } }
     t.plan.armed = true ∧ t.pool.free = [5] ∧ noticesOn t .dLink = []) := by decide

/-! ### Recovery, power, supply and resets -/

/-- Outside WAITING; and in WAITING with 2,047, 2,048, 65,536 and 65,537 pages; and a step that keeps P. -/
theorem test_meets_AttachBeginsHunt :
    (plain.ready .fLink 15 = true ∧ plain.steady = true ∧ plain.calm = true ∧ plain.recovery.service ≠ .waiting) ∧
    (State.reset.ready .fLink 15 = true ∧ State.reset.steady = true ∧ State.reset.calm = true ∧
      State.reset.recovery.service = .waiting ∧ 2047 < 2048 ∧ 65536 < 65537) ∧
    (let s := mixedPart.setPending [.warmStart 0]
     s.recovery.service ≠ .waiting ∧ s.supply.mode ≠ .hibernate ∧ stepsOn s = true ∧
       (after (.warmStart 0) s).recovery.service ≠ .waiting) := by decide

/-! ### Reads of the ring -/

/-- A valid page of PSN `psn`, whose header puts the tail at `tail`. -/
def ringPage (psn tail : Nat) (es : List Entry) : Page :=
  { psn := psn, firstJsn := 1, epoch := 3, tail := tail, slotCount := 1024, diskGrains := 65536, entries := es }

/-- A part of 2,048 ring pages that waits for its read of a ring index under order 8. -/
def readingRing (index : Nat) (phase : Reading → Phase) (aborted : Nat) : State :=
  { State.reset with
    recovery :=
      { service := .recovering, ringPages := 2048, format := none
        phase := phase { index := index, attempts := aborted, ordered := true } }
    work := { Work.reset with fIssued := [⟨8, .pageRead index⟩] } }

def hunting (stage : HuntStage) (low high lap index : Nat) (c : Option PageHeader) (aborted : Nat) : State :=
  readingRing index (fun r => .hunt
    { stage := stage, low := low, high := high, lap := lap, fallback := false, candidate := c, largestEpoch := 0
      reading := r }) aborted

/-- The candidate of PSN 2,048 whose header has the tail given. -/
def found (tail : Nat) : PageHeader := { psn := 2048, tail := tail, slotCount := 1024, diskGrains := 65536 }

/-- Indexes 0 and P - 1, a middle one with bounds left and the last, each valid, invalid, and ABORTED twice before. -/
theorem test_meets_HuntReads :
    (∀ n ∈ [0, 2], ∀ s ∈ [hunting .zero 0 0 0 0 none n, hunting .last 0 0 0 2047 none n,
        hunting .halving 0 2048 1 1024 (some (found 0)) n, hunting .halving 4 6 1 5 (some (found 1)) n],
      s.ready .fLink 15 = true ∧ s.steady = true ∧ s.recovery.service = .recovering ∧ 2048 ≤ s.recovery.ringPages ∧
        s.fenceMet .fLink 8 0 = false ∧ (s.issuedOrder .fLink 8 0).isSome ∧ s.jrn.page = none ∧ s.jrn.images = [] ∧
        s.work.pageFences = [] ∧ s.work.pageQueue = [] ∧ (n + 1 < 3 ↔ n = 0)) ∧
    (Request.finish 8 15 2 none).fits = true ∧ (ringPage 2048 0 []).fits = true ∧ (ringPage 2047 0 []).fits = true ∧
    (∀ psn ∈ [0, 2047, 2048, 3072], (ringPage psn 0 []).psn % 2048 = psn % 2048 ∧ 1024 ≤ (ringPage psn 0 []).slotCount ∧
      65536 ≤ (ringPage psn 0 []).diskGrains) := by decide

/-- Index 0 unreadable: index P - 1 is read; unreadable too: BLANK. The last halving: the replay begins at the header's
tail, at the candidate where the tail lies above it, and at PSN 1 with MAP_TRUNCATED where it lies P below. -/
theorem test_hunt :
    (after (.finish .fLink 1 8 0 1 none 0) (hunting .zero 0 0 0 0 none 0)).work.pageQueue = [⟨8, .pageRead 2047⟩] ∧
      (after (.finish .fLink 1 8 0 1 none 0) (hunting .last 0 0 0 2047 none 0)).recovery.service = .blank ∧
      (after (.finish .fLink 1 8 0 2 none 0) (hunting .zero 0 0 0 0 none 1)).work.pageQueue = [⟨8, .pageRead 0⟩] ∧
      (after (.finish .fLink 1 8 0 1 none 0) (hunting .halving 4 8 1 6 (some (found 1)) 0)).work.pageQueue =
        [⟨8, .pageRead 5⟩] ∧
      [0, 1, 2047, 2049].map (fun tail =>
        let t := after (.finish .fLink 1 8 0 1 none 0) (hunting .halving 4 6 1 5 (some (found tail)) 0)
        (t.work.pageQueue, (noticesOn t .iLink).length)) =
        [([⟨8, .pageRead 1⟩], 1), ([⟨8, .pageRead 1⟩], 0), ([⟨8, .pageRead 2047⟩], 0), ([⟨8, .pageRead 0⟩], 0)] := by decide

/-- A replay that waits for the page of PSN `next` of a candidate of PSN 2,048. -/
def replaying (next tail : Nat) (expected : Option Nat) (aborted : Nat) : State :=
  readingRing (next % 2048) (fun r => .replay
    { candidate := found tail, next := next, expected := expected, lastJsn := 0, largestEpoch := 0, largestCkpt := none
      tail := tail, retired := [], reading := r }) aborted

/-- The page of the head candidate and the one before it, the first JSN expected and none; the tail one page from the
end of the ring and further; and ABORTED twice before. -/
theorem test_meets_ReplayReads :
    (∀ n ∈ [0, 2], ∀ s ∈ [replaying 2048 2048 none n, replaying 2047 2047 (some 1) n, replaying 2048 1 none n],
      s.ready .fLink 15 = true ∧ s.supply.mode = .run ∧ s.recovery.service = .recovering ∧ s.recovery.format = none ∧
        2048 ≤ s.recovery.ringPages ∧ s.fenceMet .fLink 8 0 = false ∧ (s.issuedOrder .fLink 8 0).isSome ∧
        s.jrn.page = none ∧ s.jrn.images = [] ∧ s.work.pageFences = [] ∧ s.work.pageQueue = []) ∧
    (∀ psn ∈ [2047, 2048], (ringPage psn 1 [.extentSet (dirty 1 4 4 14 6).entryBody]).fits = true) ∧
    (mixed.map (fun r => r.id)).Nodup ∧ ∀ r ∈ mixed, r.id < 16384 := by decide

/-- The page that the replay waits for has not come; the step reads no record. -/
theorem test_meets_SlotsStayPlaced_replay :
    let s := replaying 2048 2048 none 0
    s.mapSound ∧ s.slotsPlaced ∧
      (match step s with
        | .next t => t.records.all (fun x => decide x.slots.Nodup)
        | _ => false) = true :=
  ⟨⟨⟨by decide, by decide, by decide⟩, ⟨by decide, by decide, by decide⟩,
    ⟨by intro h; rcases h with h | h | h | ⟨_, h⟩ <;> (cases h), nofun⟩,
    ⟨by decide, by decide, by decide, nofun, by decide⟩, by decide, by decide, by decide, nofun⟩,
    ⟨by decide, nofun, nofun, by decide, by decide⟩, by decide⟩

/-- The entries of the table of R168, each on a table of records. -/
theorem test_replayEntry :
    let x : Replay := { candidate := found 0, next := 0, expected := none, lastJsn := 0, largestEpoch := 0
                        largestCkpt := none, tail := 0, retired := [40], reading := readOf 0 }
    let on := fun (e : Entry) => replayEntry 7 (part [mirrored 3 0 4 10, { dirty 1 4 4 14 6 with absorbOpen := true }] [] .stopped, x) e
    (on (.extentSet (mirrored 9 2 3 13).entryBody)).1.records.map (fun r => (r.id, r.first, r.len)) = [(0, 2, 3)] ∧
      (on (.absorbCommit 4)).1.records.map (fun r => r.absorbOpen) = [false, false] ∧
      (on (.extentDrop 0 5)).1.records.map (fun r => r.id) = [1] ∧ (on (.slotRetire 30)).2.retired = [30, 40] ∧
      (on (.ckptEnd 5)).2.largestCkpt = some 5 := by decide

/-- The page of the head candidate fails: the replay stops at it, in RESTATE. -/
theorem test_replay_stops :
    let t := after (.finish .fLink 1 8 0 1 none 0) (replaying 2048 2048 none 0)
    t.recovery.phase = .restate ∧ noticesOn t .iLink = [.mapTruncated 2048] ∧ t.jrn.head = 2049 ∧
      t.map.slotCount = 1024 := by decide

theorem test_attach :
    [2047, 2048, 65536, 65537].map (fun n => codes (after (.attach 1 n 0) State.reset)) =
      [[.range], [.ok], [.ok], [.range]] ∧
    (after (.attach 1 2048 0) State.reset).work.pageQueue = [⟨8, .pageRead 0⟩] := by decide

/-- A map loss in SERVING; and in HIBERNATE the wake that an ATTACH makes. -/
theorem test_meets_ServiceStateMoves :
    (mixedPart.supply.mode ≠ .hibernate ∧ mixedPart.serviceSound ∧ stepsOn (mixedPart.setPending [.mapLoss 0]) = true ∧
      (after (.mapLoss 0) mixedPart).recovery.service = .recovering) ∧
    (let s : State := { mixedPart with supply := { mixedPart.supply with mode := .hibernate } }
     s.serviceSound ∧ s.supply.mode = .hibernate ∧ (after (.attach 1 2048 0) s).recovery.service = .recovering) := by
  refine ⟨⟨by decide, ⟨by decide, by decide, by decide⟩, by decide, by decide⟩, ⟨by decide, by decide, by decide⟩,
    by decide, by decide⟩

/-- FORMATTING, its page under order 8, after failures of it; the FORMAT waits. -/
def formatting (failures : Nat) : State :=
  { (plain.setPort .fLink { Port.reset with accepted := [{ listed (.format 0 0) 4 with standing := .formatWaits }] }) with
    recovery :=
      { service := .formatting, ringPages := 2048, phase := .none, format := some { attempts := failures, ordered := true } }
    work := { Work.reset with fIssued := [⟨8, .pageWrite 0 (ringPage 0 0 [])⟩] }
    jrn := Journal.reset }

/-- BLANK with and without the warning; and the FINISH of the format page after 0, 1 and 2 failures. -/
theorem test_meets_FormatBegins :
    (∀ s ∈ [warned blank, blank], s.ready .fLink 15 = true ∧ s.steady = true ∧ s.recovery.service = .blank) ∧
      (warned blank).supply.warning = true ∧ blank.supply.warning = false ∧ blank.freePageId ≠ none ∧
      blank.indexFenced 0 = false ∧
    ∀ n ∈ [0, 1, 2], (formatting n).ready .fLink 15 = true ∧ (formatting n).steady = true ∧
      (formatting n).recovery.service = .formatting ∧ (formatting n).recovery.phase = .none ∧
      (formatting n).recovery.format = some { attempts := n, ordered := true } ∧
      (formatting n).fenceMet .fLink 8 0 = false ∧
      (formatting n).issuedOrder .fLink 8 0 = some ⟨8, .pageWrite 0 (ringPage 0 0 [])⟩ := by decide

theorem test_finish_format :
    (let t := after (.finish .fLink 1 8 0 0 none 0) (formatting 0)
     t.serving = true ∧ bodies t = [.sizes 1024 65536, .empty] ∧ t.jrn.head = 1) ∧
      (after (.finish .fLink 1 8 0 1 none 0) (formatting 1)).work.pageQueue = [⟨8, .pageWrite 0 (ringPage 0 0 [])⟩] ∧
      (let t := after (.finish .fLink 1 8 0 2 none 0) (formatting 2)
       t.recovery.service = .blank ∧ codes t = [.retry, .ok] ∧ t.map.slotCount = 0) := by decide

theorem test_format_held : codes (after (.format 1 0 0 0) (warned blank)) = [.hold] := by decide

/-- Codes 0 to 5, the fault, an open write, an issued order, an entry not durable, and a part with nothing to wait for;
a quiesce to be ended or given a new target. -/
theorem test_meets_PowerModeRequests :
    (plain.serves .iLink 15 = true ∧ plain.supply.mode = .run ∧ (faulted plain).serves .iLink 15 = true ∧
      (faulted plain).jrn.fault.isSome ∧ written.serves .iLink 15 = true ∧ written.jrn.fault = none ∧
      0 < written.openWrites ∧ promoting.serves .iLink 15 = true ∧
      (∃ j ∈ promoting.work.jobs, j.stage = .completing ∨ promoting.jobIssued j = true) ∧
      (promoting.work.jobs.map (fun j => j.id)).Nodup ∧ unsynced.serves .iLink 15 = true ∧
      unsynced.openWrites = 0 ∧ unsynced.work.jobs = [] ∧ unsynced.jrn.durableJsn ≠ unsynced.jrn.lastJsn ∧
      plain.jrn.fault = none ∧ plain.openWrites = 0 ∧ plain.work.jobs = [] ∧ plain.hasUnemitted = false ∧
      plain.jrn.durableJsn = plain.jrn.lastJsn ∧ ∀ a ∈ (plain.port .iLink).accepted, a.standing ≠ .powerWaits) ∧
    (let s := quiesced .hibernate false written
     s.ready .iLink 15 = true ∧ s.recovery.service = .serving ∧ s.calm = true ∧ s.steady = true ∧
       s.supply.mode = .quiescing .hibernate false false ∧ 0 < s.openWrites) := by decide

theorem test_power :
    (after (.power 1 1 0) plain).supply.mode = .doze ∧ codes (after (.power 1 2 0) plain) = [.range] ∧
      (after (.power 1 3 0) plain).supply.mode = .retain ∧
      (after (.power 1 4 0) written).supply.mode = .quiescing .hibernate false false ∧
      (after (.power 1 4 0) written).jrn.requested = true := by decide

theorem test_power_ends_quiesce :
    codes (after (.power 2 0 0) (after (.power 1 4 0) written)) = [.notReady, .ok] ∧
      (after (.power 2 3 0) (after (.power 1 4 0) written)).supply.mode = .quiescing .retain false false ∧
      (after (.power 2 3 0) (after (.power 1 4 0) written)).jrn.requested = false := by decide

/-- A POWER waits for RETAIN. -/
def powerWaits (s : State) : State :=
  (quiesced .retain false s).setPort .iLink
    { s.port .iLink with accepted := (s.port .iLink).accepted ++ [{ listed (.power 3) 6 with standing := .powerWaits }] }

/-- The POWER of HIBERNATE waits for a pass whose CKPT_END has a JSN of 1. -/
def passWaits (answers : Bool) : State :=
  let s := quiesced .hibernate false (paged 0)
  { s with jrn := { s.jrn with pass := some { number := 0, beginPsn := 0, phase := .ended 1, answers := answers } } }

/-- The entries into RETAIN and into HIBERNATE. One open write without a record made; one cancelled job; one page that
holds the last entry; each with every entry durable and with one that is not, and the journal without a fault. -/
theorem test_meets_QuiesceEnds :
    (plain.supply.mode ≠ .retain ∧ (after (.power 1 3 0) plain).supply.mode = .retain) ∧
    (∀ s ∈ [passWaits true, quiesced .hibernate true (paged 0)],
      s.supply.mode ≠ .hibernate ∧ (after (.finish .fLink 1 8 0 0 none 0) s).supply.mode = .hibernate) ∧
    (∀ s ∈ [powerWaits (withWrite plain (openedAt 0 1 [])), powerWaits (withWrite unsynced (openedAt 0 1 []))],
      s.supply.mode = .quiescing .retain false false ∧ s.serving = true ∧ s.calm = true ∧ s.pool.pendingRetire = [] ∧
        s.ready .iLink 15 = true ∧ s.openWrite 0 = some (openedAt 0 1 []) ∧ s.openWrites = 1 ∧
        s.writes.handles.length = 32 ∧ (s.writes.get 0).gen ≤ 15 ∧ s.work.jobs = [] ∧
        s.createdBy (openedAt 0 1 []) = []) ∧
    (let s := powerWaits (jobAt .one 0 true)
     s.serving = true ∧ s.calm = true ∧ s.pool.pendingRetire = [] ∧ s.ready .dLink 15 = true ∧
       s.fenceMet .dLink 0 0 = false ∧ s.issuedOrder .dLink 0 0 = some ⟨0, .platterRead 0 0 4⟩ ∧
       s.work.jobs.length = 1 ∧ s.openWrites = 0 ∧ s.hasUnemitted = false ∧ s.jrn.durableJsn = s.jrn.lastJsn) ∧
    (let s := powerWaits (paged 0)
     s.serving = true ∧ s.calm = true ∧ s.ready .fLink 15 = true ∧ s.fenceMet .fLink 8 0 = false ∧
       (s.issuedOrder .fLink 8 0).isSome ∧ s.recovery.format = none ∧ s.recovery.phase = .none ∧ s.openWrites = 0 ∧
       s.work.jobs = [] ∧ s.hasUnemitted = false ∧ s.jrn.written = [] ∧ s.jrn.lastJsn = jsnAdd 1 0 ∧
       jsnNext s.jrn.durableJsn = 1) ∧
    ((∀ s ∈ [plain, unsynced, jobAt .one 0 true, paged 0, passWaits true], s.jrn.fault = none) ∧
      ((passWaits true).jrn.pass.map (fun p => (p.phase, p.answers))) = some (.ended 1, true)) ∧
    (plain.hasUnemitted = false ∧ plain.jrn.durableJsn = plain.jrn.lastJsn ∧
      unsynced.jrn.durableJsn ≠ unsynced.jrn.lastJsn) ∧
    extentsSound (jobAt .one 0 true).records := by
  refine ⟨by decide, by decide, by decide, by decide, by decide, by decide, by decide, sound_jobAt _ _ _⟩

theorem test_quiesce_ends :
    (after (.finish .fLink 1 8 0 0 none 0) (passWaits false)).supply.mode = .quiescing .hibernate false false ∧
    (let t := after (.writeClose 1 0 0 0 0) (powerWaits (withWrite plain (openedAt 0 1 [])))
     codes t = [.ok, .ok] ∧ t.supply.mode = .retain ∧ t.supply.memory = .selfRefresh) ∧
    (after (.writeClose 1 0 0 0 0) (powerWaits (withWrite unsynced (openedAt 0 1 [])))).supply.mode =
      .quiescing .retain false false ∧
    (after (.finish .dLink 1 0 0 0 none 0) (powerWaits (jobAt .one 0 false))).supply.mode = .retain ∧
    codes (after (.finish .fLink 1 8 0 0 none 0) (powerWaits (paged 0))) = [.ok, .ok, .ok] := by decide

def rstnIsLow (s : State) : State := { s with supply := { s.supply with rstn := .low } }

/-- By the pin in SERVING, with and without an absorption open, with jobs, and in WAITING and BLANK; and by RESET. -/
theorem test_meets_WarmStartLeaves :
    (∀ s ∈ [rstnIsLow mixedPart, rstnIsLow written, rstnIsLow waitingJobs, rstnIsLow State.reset, rstnIsLow blank],
      s.supply.rstn = .low ∧ s.supply.heldLowest = none ∧ s.supply.mode ≠ .hibernate) ∧
    (mixedPart.ready .iLink 15 = true ∧ mixedPart.serving = true) ∧ mixedPart.work.jobs = [] ∧
    mixedPart.absorbOpens = [] ∧ written.absorbOpens ≠ [] ∧ written.work.jobs = [] ∧
    (waitingJobs.work.jobs.map (fun j => j.id)).Nodup ∧ (waitingJobs.work.jobs.map (fun j => j.record)).Nodup ∧
    waitingJobs.pool.pendingRetire = [] ∧ State.reset.supply.warning = true ∧
    (promoting.work.gens.length = 32 ∧ (∀ g ∈ promoting.work.gens, g < 16) ∧
      ((promoting.work.dIssued ++ promoting.work.fIssued).map (fun o => o.id)).Nodup ∧
      (∀ o ∈ promoting.work.dIssued, o.id < 8)) := by decide

/-- The jobs of a warm start are rolled back; RESERVE_SLOTS is a quarter of SLOT_COUNT in SERVING and 4,096 in RESUME. -/
theorem test_warmStart_jobs :
    (let t := after (.warmStart 0) (rstnIsLow waitingJobs)
     t.records.map (fun r => r.state) = [.tracked, .dirty] ∧ t.plan.dirtyList = [1] ∧ t.work.jobs = [] ∧
       t.params.reserveSlots = 256) ∧
    (after (.warmStart 0) (rstnIsLow written)).params.reserveSlots = 4096 ∧
    (after (.warmStart 0) (rstnIsLow promoting)).work.windowFences = [⟨0, .dLink, 0, 0⟩] := by decide

theorem test_warmStart :
    (after (.warmStart 0) (rstnIsLow written)).recovery.phase = .resume ∧
      noticesOn (after (.warmStart 0) (rstnIsLow mixedPart)) .iLink = [.recoveryDone 0] ∧
      ((after (.warmStart 0) (rstnIsLow written)).writes.get 0).gen = 1 ∧
      (after (.warmStart 0) (rstnIsLow blank)).work.pageQueue = [⟨8, .pageRead 0⟩] ∧
      (after (.warmStart 0) (rstnIsLow (formatting 0))).map.slotCount = 0 := by decide

theorem test_reset :
    (after (.reset 1 0) mixedPart).sent = [] ∧ (after (.reset 1 0) mixedPart).supply.cause = .resetRequest := by decide

/-- 4.199 V for 20 µs; returns from 1.999 V and 2.000 V, by each command that gives VDD; pulses of 999 ns and 1 µs; RSTn
high, low in a part held, low in HIBERNATE, and low after the cold start of one; both sleeps. -/
theorem test_meets_SupplyAndWakes :
    (4199 < 4200 ∧ 20000 ≤ 20000 ∧ plain.supply.heldLowest = none ∧ plain.supply.rstn = .high ∧
      plain.supply.mode ≠ .hibernate ∧ plain.supply.memory = .refreshed) ∧
    { plain.supply with heldLowest := some 1999 }.heldLowest = some 1999 ∧ 4200 ≤ 4200 ∧
    (let s := { rstnIsLow plain with supply := { (rstnIsLow plain).supply with heldLowest := some 4000 } }
     s.supply.rstn = .low ∧ s.supply.heldLowest ≠ none) ∧
    { plain.supply with heldLowest := some 4000 }.rstn = .high ∧
    (let s := { rstnIsLow plain with supply := { (rstnIsLow plain).supply with mode := .hibernate } }
     s.supply.rstn = .low ∧ s.supply.heldLowest = none ∧ s.supply.mode = .hibernate) ∧
    (let s := { plain with supply := { plain.supply with rstn := .lowAfterCold } }
     s.supply.rstn = .lowAfterCold ∧ s.calm = true ∧ s.steady = true) ∧
    (let s := { plain with supply := { plain.supply with mode := .retain } }
     s.supply.heldLowest = none ∧ s.supply.rstn = .high ∧ s.supply.mode = .retain ∧ s.calm = true) ∧
    (let s := { plain with supply := { plain.supply with mode := .hibernate } }
     s.supply.heldLowest = none ∧ s.supply.rstn = .high ∧ s.supply.mode = .hibernate) ∧
    (19999 < 20000 ∧ 4200 ≤ 4200 ∧ { plain.supply with heldLowest := some 4199 }.heldLowest ≠ none) := by decide

/-- A brown-out in a part held in reset sinks the lowest level, or ends the reset at 4.2 V; a dip of 4.3 V starts the
warning, however long (R182, R185). -/
theorem test_brownOut_held :
    (let held : State := { plain with supply := { plain.supply with heldLowest := some 3000 } }
     (after (.brownOut 1999 1) held).supply.heldLowest = some 1999 ∧
       (after (.brownOut 3001 1) held).supply.heldLowest = some 3000 ∧
       (after (.brownOut 4200 1) held).supply.cause = .bor) ∧
    (after (.brownOut 4300 20000) plain).supply.warning = true ∧
      (after (.brownOut 4199 19999) plain).supply.warning = true := by decide

/-- VDD back at 4.2 V ends the reset whatever command brings it; RSTn high in HIBERNATE is a cold start; the lines of a
part held in reset stay released when RSTn returns to high. -/
theorem test_reset_pins :
    (let held : State := { plain with supply := { plain.supply with heldLowest := some 3000 } }
     (after (.warningStart true 4200 0) held).supply.cause = .bor ∧
       (after (.clearingFilter false 4199) held).supply.heldLowest = some 3000) ∧
    (after (.warmStart 0) { rstnIsLow plain with supply := { (rstnIsLow plain).supply with mode := .hibernate } }).recovery.service =
      .waiting ∧
    (let s : State := { noticed with supply := { noticed.supply with rstn := .lowAfterCold, heldLowest := some 3000 } }
     ((after (.warmStart 0) s).port .iLink).attention = false) := by decide

theorem test_brownOut :
    (after (.brownOut 4199 20000) plain).supply.heldLowest = some 4199 ∧
      (after (.brownOut 4199 19999) plain).supply.heldLowest = none := by decide

theorem test_coldStart :
    let held (v : Nat) : State := { plain with supply := { plain.supply with heldLowest := some v, brownOuts := 255 } }
    ((after (.coldStart 4200) (held 1999)).supply.cause, (after (.coldStart 4200) (held 1999)).supply.brownOuts) =
        (.por, 0) ∧
      ((after (.coldStart 4200) (held 2000)).supply.cause, (after (.coldStart 4200) (held 2000)).supply.brownOuts) =
        (.bor, 255) ∧
      (after (.coldStart 4200) (held 2000)).recovery.service = .waiting := by decide

theorem test_rstnLow :
    (after (.rstnLow 999) plain).supply.rstn = .high ∧ (after (.rstnLow 1000) plain).supply.rstn = .low := by decide

/-- RSTn low in a part held in reset keeps the frames out after the cold start, until the warm start (R186; log 10). -/
theorem test_rstnLow_held :
    let held : State := { plain with supply := { plain.supply with heldLowest := some 3000 } }
    let t := after (.coldStart 4200) (after (.rstnLow 1000) held)
    t.supply.rstn = .low ∧ ((after (.frameArrival .iLink [0x07#8, 3#8, 0#8, 0#8]) t).port .iLink).accepted = [] ∧
      (after (.warmStart 0) t).supply.cause = .rstn := by decide

theorem test_retainWake :
    let s : State := { plain with supply := { plain.supply with mode := .retain, memory := .selfRefresh } }
    (after (.retainWake .dLink 2) s).supply.mode = .run ∧ (after (.retainWake .dLink 2) s).supply.corrected = 2 := by decide

theorem test_hibernateWake :
    let s : State := { plain with supply := { plain.supply with mode := .hibernate } }
    (after (.hibernateWake .fLink) s).supply.cause = .hibernateWake ∧
      (after (.hibernateWake .fLink) s).recovery.service = .waiting := by decide

theorem test_refresh :
    (after .refresh { plain with supply := { plain.supply with refreshTimer := 5 } }).supply.refreshTimer = 0 := by decide

/-- The threshold of WARN_LEVEL 1 is 4.5 V: one millivolt below and at it, at the clearing level and below, and a
filter at 49 and 50 ms; in RUN, in RETAIN, in a quiesce beside two open writes, and in HIBERNATE. -/
theorem test_meets_WarningStartsAndClears :
    (∀ s ∈ [plain, quiesced .retain false (openTwice plain)], s.supply.heldLowest = none ∧ s.enduring = true ∧
      s.steady = true ∧ s.calm = true ∧ s.supply.warning = false ∧ 4499 < 4400 + 100 * s.params.warnLevel ∧
      4400 + 100 * s.params.warnLevel ≤ 4500) ∧
    ((resuming plain).supply.heldLowest = none ∧ (resuming plain).enduring = true ∧ (resuming plain).serving = false) ∧
    ((warned plain).supply.heldLowest = none ∧ (warned plain).steady = true ∧ (warned plain).calm = true ∧
      (warned plain).supply.warning = true) ∧
    (∀ m ∈ [Mode.run, .retain, .hibernate], ∀ n ∈ [49, 50],
      let s : State := { plain with supply := { plain.supply with mode := m, warning := true, filter := some n } }
      s.supply.heldLowest = none ∧ (s.steady = true ∨ m = .retain ∨ m = .hibernate) ∧ s.calm = true ∧
        s.supply.filter = some n) := by decide

/-- In HIBERNATE no filter ends; a full page that waits keeps its urgency (R147, R183). -/
theorem test_warning_kept :
    (after .warningClear { plain with supply :=
      { plain.supply with mode := .hibernate, warning := true, filter := some 50 } }).supply.warning = true ∧
    (let h : Image := { page := ringPage 0 0 [], state := .issued 9 }
     let s : State := { unsynced with jrn := { unsynced.jrn with
       head := 3, images := [h, { h with state := .issued 10 }, { h with state := .issued 11 }]
       page := some { usedPage with full := true } } }
     (after (.warningStart true 5000 0) s).jrn.pendingEmission = some true) := by decide

/-- The warning of a part in RESUME emits nothing (R184). -/
theorem test_warning_resume :
    (after (.warningStart true 5000 0) (resuming unsynced)).jrn.images = [] ∧
      (after (.warningStart true 5000 2) unsynced).jrn.images.length = 1 ∧
      (after (.warningStart true 5000 2) unsynced).supply.corrected = 2 := by decide

theorem test_warningStart :
    noticesOn (after (.warningStart false 4499 0) plain) .dLink = [.powerWarnStart false true] ∧
      (after (.warningStart false 4500 0) plain).supply.warning = false := by decide

theorem test_clearingFilter :
    (after (.clearingFilter false 4600) (warned plain)).supply.filter = some 0 ∧
      (after (.clearingFilter false 4599) (warned plain)).supply.filter = none := by decide

theorem test_warningClear :
    let at' (n : Nat) : State := { plain with supply := { plain.supply with warning := true, filter := some n } }
    (after .warningClear (at' 49)).supply.warning = true ∧ (after .warningClear (at' 50)).supply.warning = false ∧
      noticesOn (after .warningClear (at' 50)) .fLink = [.powerWarnClear] := by decide

/-- WAITING and BLANK; SERVING with a SYNC that waits, a quiesce whose POWER waits, and FORMATTING whose FORMAT waits. -/
theorem test_meets_MapLossLeaves :
    (State.reset.awake = true ∧ State.reset.recovery.service = .waiting) ∧
      (blank.awake = true ∧ blank.recovery.service = .blank) ∧
      (∀ s ∈ [paged 0, powerWaits plain, formatting 0], s.awake = true ∧ s.recovery.service ≠ .waiting ∧
        s.recovery.service ≠ .blank) ∧
      (∃ a ∈ ((paged 0).port .iLink).accepted, a.standing = .syncWaits 1) ∧
      ((powerWaits plain).quiescing = true ∧ ∃ a ∈ ((powerWaits plain).port .iLink).accepted, a.standing = .powerWaits) ∧
      (∃ a ∈ ((formatting 0).port .fLink).accepted, a.standing = .formatWaits) := by decide

theorem test_mapLoss_deferred :
    codes (after (.mapLoss 0) (powerWaits plain)) = [.notReady] ∧
      codes (after (.mapLoss 0) (formatting 0)) = [.notReady] := by decide

theorem test_mapLoss :
    codes (after (.mapLoss 0) (paged 0)) = [.notReady] ∧
      noticesOn (after (.mapLoss 0) (paged 0)) .dLink = [.mapLost .serving] ∧
      (after (.mapLoss 2) blank).supply.corrected = 2 ∧
      (after (.mapLoss 0) (paged 0)).map.slotCount = 1024 ∧
      (after (.mapLoss 0) (formatting 0)).map.slotCount = 0 := by decide

/-! ### Timers, planner, journal -/

/-- A tick due to the millisecond and one before, in RUN and in RETAIN; a linger timer due and one before. -/
theorem test_meets_TimersExpire :
    (∀ n ∈ [29999, 30000], ∀ m ∈ [Mode.run, .retain],
      let s : State := { plain with heat := { HeatUnit.reset with timer := n }, supply := { plain.supply with mode := m } }
      s.serving = true ∧ s.supply.mode ≠ .hibernate ∧ s.supply.heldLowest = none ∧ s.supply.rstn = .high ∧
        (s.steady = true ∨ s.supply.mode = .retain) ∧ s.calm = true ∧ s.params.epochSeconds * 1000 = 30000) ∧
    (∀ n ∈ [99, 100],
      let s : State := { unsynced with now := n }
      s.awake = true ∧ s.steady = true ∧ s.calm = true ∧ s.jrn.page = some usedPage ∧ usedPage.linger = some 0 ∧
        s.jrn.fault = none ∧ 0 < usedPage.unemitted ∧ (n < 0 + s.params.journalLinger ↔ n = 99)) := by decide

theorem test_epochTick :
    let s : State := { plain with heat := { HeatUnit.reset with timer := 30000, budget := 15999 } }
    (after (.epochTick 0) s).heat.epoch = 1 ∧ (after (.epochTick 0) s).heat.budget = 16384 ∧
      (after (.epochTick 0) s).plan.cursor = some 0 := by decide

theorem test_lingerExpiry :
    (after (.lingerExpiry 0) { unsynced with now := 99 }).work.pageQueue = [] ∧
      (after (.lingerExpiry 0) { unsynced with now := 100 }).jrn.images.length = 1 := by decide

/-- Record 0 heads the candidate list, its heat at T_PROMOTE; record 1 is DIRTY and heads the dirty list. -/
def planning : State :=
  { part [{ tracked 0 0 64 with heat := 512 }, dirty 1 64 2 100 3] (List.range 64) .spinning with
    plan := { Planner.reset with candidates := [⟨0, 512, false, 0⟩], dirtyList := [1] } }

theorem sound_planning : extentsSound planning.records := ⟨by decide, by decide, by decide⟩

/-- The last window FREE, the others fenced. -/
def lastWindow (s : State) : State :=
  { s with work := { s.work with windowFences := (List.range 7).map (fun n => ⟨n, .dLink, n, 0⟩) } }

/-- A promotion and a write-back that both would start, with 3 slots above the low mark and at the high mark; and one
window FREE. -/
theorem test_meets_PlannerStarts :
    (planning.calm = true ∧ planning.jobOf 0 = none ∧ planning.windowFenced 0 = false ∧
      (∀ v, v < 0 → (planning.jobOf v).isSome ∨ planning.windowFenced v = true) ∧ planning.serving = true ∧
      planning.supply.mode = .run ∧ planning.supply.heldLowest = none ∧ planning.supply.warning = false ∧
      planning.stalled = false ∧ planning.jrn.fault = none ∧
      planning.recordOf 0 = some { tracked 0 0 64 with heat := 512 } ∧ 64 ≤ planning.heat.budget ∧
      planning.params.tPromote ≤ { tracked 0 0 64 with heat := 512 }.density planning.heat.epoch ∧
      64 + planning.params.reserveSlots ≤ planning.pool.free.length) ∧
    (let s : State := { planning with map := { planning.map with slotCount := 3 } }
     s.calm = true ∧ s.stalled = false ∧ s.work.spindle = .spinning ∧ s.dirtyGrains = 2 ∧
       s.plan.dirtyList = [] ++ 1 :: [] ∧ s.recordOf 1 = some (dirty 1 64 2 100 3) ∧
       s.map.slotCount * s.params.dirtyLow / 100 < 2 ∧ s.map.slotCount * s.params.dirtyHigh / 100 ≤ s.dirtyGrains) ∧
    ((lastWindow planning).jobOf 7 = none ∧ (lastWindow planning).windowFenced 7 = false ∧
      (lastWindow planning).calm = true ∧ ∀ v, v < 7 → (lastWindow planning).windowFenced v = true) ∧
    extentsSound planning.records := ⟨by decide, by decide, by decide, sound_planning⟩

/-- A promotion and two write-backs would start; windows 6 and 7 are FREE. -/
def twoWindows : State :=
  { part [{ tracked 0 0 64 with heat := 512 }, dirty 1 64 2 100 3, dirty 2 66 2 102 3] (List.range 64) .spinning with
    plan := { Planner.reset with candidates := [⟨0, 512, false, 0⟩], dirtyList := [1, 2] }
    map := { PlacementMap.reset with
      records := [{ tracked 0 0 64 with heat := 512 }, dirty 1 64 2 100 3, dirty 2 66 2 102 3]
      slotCount := 3, diskGrains := 65536 }
    work := { Work.reset with
      spindle := .spinning, windowFences := (List.range 6).map (fun n => ⟨n, .dLink, n, 0⟩) } }

/-- Both are taken (R110): after the one the other is owed the window that is left, whatever the dirty grains are, and
the write-back that stands next gives way to the promotion, or the promotion to none. -/
theorem test_two_windows :
    let s := twoWindows
    let back := after (.writebackStart 0) s
    let head := after (.promotionStart 0) s
    back.owed = some .promotion ∧ head.owed = some .writeback ∧
      (after (.writebackStart 0) back).work.jobs.map (fun j => j.id) = [6] ∧
      (after (.promotionStart 0) back).work.jobs.map (fun j => j.id) = [6, 7] ∧
      (after (.promotionStart 0) back).owed = none ∧
      (after (.writebackStart 0) head).work.jobs.map (fun j => j.id) = [6, 7] := by decide

/-- Two windows FREE, and the one left with a start owed; each state is the next of the other's start. -/
theorem test_meets_PlannerStarts_two :
    extentsSound twoWindows.records ∧
    (∀ s ∈ [twoWindows, { lastWindow twoWindows with owed := some .promotion },
        { lastWindow twoWindows with owed := some .writeback }],
      s.calm = true ∧ s.serving = true ∧ s.supply.mode = .run ∧ s.supply.heldLowest = none ∧ s.supply.warning = false ∧
      s.stalled = false ∧ s.jrn.fault = none ∧ s.work.spindle = .spinning ∧
      s.plan.candidates = ⟨0, 512, false, 0⟩ :: [] ∧ s.plan.dirtyList = [] ++ 1 :: [2]) ∧
    (twoWindows.jobOf 6 = none ∧ twoWindows.windowFenced 6 = false ∧ twoWindows.windowFenced 7 = false ∧
      ∀ v, v < 6 → twoWindows.windowFenced v = true) :=
  ⟨⟨by decide, by decide, by decide⟩, by decide, by decide⟩

/-- Record 0, of density 512 (T_PROMOTE), under an offer; `n` others are listed, the lowest of hint `low`. -/
def offering (pinned : Bool) (n low : Nat) : State :=
  { part [{ tracked 0 0 64 with heat := 512, pinned := pinned }] [] .stopped with
    plan := { Planner.reset with
      candidates := (List.range n).map (fun i => ⟨i + 1, low + (n - 1 - i), false, i⟩) } }

/-- Record 0 stands on the list between two others, in the part and with the hint given. -/
def listing (pinned listed : Bool) (heat : Nat) : State :=
  { part [{ tracked 0 0 64 with heat := heat, pinned := pinned }] [] .stopped with
    plan := { Planner.reset with candidates := [⟨1, 600, true, 5⟩, ⟨0, 512, listed, 7⟩, ⟨2, 512, false, 9⟩] } }

theorem sound_offering (b : Bool) (n low : Nat) : extentsSound (offering b n low).records := by
  have : ∀ b, extentsSound [{ tracked 0 0 64 with heat := 512, pinned := b }] := by
    intro b
    cases b <;> exact ⟨by decide, by decide, by decide⟩
  exact this b

theorem ordered_offering (b : Bool) (low : Nat) : candidatesOrdered (offering b 64 low).plan.candidates := by
  refine ⟨Nat.le_of_eq ((List.length_map _).trans List.length_range), ?_, ?_, ?_⟩
  · exact (List.pairwise_map.mpr (List.pairwise_map.mpr (List.pairwise_lt_range.imp (fun {i j} h => by
      show i + 1 ≠ j + 1
      omega))))
  · exact (List.pairwise_map.mpr (List.pairwise_map.mpr (List.pairwise_lt_range.imp (fun {i j} h => by
      show i ≠ j
      omega))))
  · exact List.pairwise_map.mpr (List.pairwise_lt_range.imp (fun {i j} h => by
      simp only [Bool.false_eq_true, if_false, true_and]
      omega))

/-- 63 and 64 entries, the lowest of a hint below and at the newcomer's, pinned and not; a record listed in either part,
at T_PROMOTE and below; and a LOCATE in it. -/
theorem test_meets_OffersTake :
    (∀ b ∈ [false, true], ∀ low ∈ [511, 512], ∀ n ∈ [63, 64],
      (let cs := (offering b n low).plan.candidates
       cs.length ≤ 64 ∧ (cs.map (fun c => c.record)).Nodup ∧ (cs.map (fun c => c.arrival)).Nodup ∧
         (∀ c ∈ cs, c.record ≠ 0) ∧ cs = cs.take (n - 1) ++ [⟨n, low, false, n - 1⟩])) ∧
    (∀ r ∈ [({ tracked 0 0 64 with heat := 512 } : Rec), { tracked 0 0 64 with heat := 511 }],
      r.state = .tracked ∧ (512 ≤ r.density 0 ↔ r.heat = 512)) ∧
    (∀ p ∈ [false, true], ∀ q ∈ [false, true], ∀ heat ∈ [511, 512],
      (listing p q heat).plan.candidates = [⟨1, 600, true, 5⟩] ++ ⟨0, 512, q, 7⟩ :: [⟨2, 512, false, 9⟩]) ∧
    (∀ b n low, extentsSound (offering b n low).records) ∧
    ((offering false 63 511).serves .iLink 1 = true ∧ (offering false 63 511).admits 0 64 = true ∧
      (offering false 63 511).isStreamed 0 64 = false) := by
  refine ⟨by decide, by decide, by decide, sound_offering, by decide⟩

theorem test_meets_OffersTake_ordered : (∀ b low, candidatesOrdered (offering b 64 low).plan.candidates) ∧
    candidatesOrdered (listing true false 512).plan.candidates :=
  ⟨ordered_offering, by decide, by decide, by decide, by decide⟩

set_option maxRecDepth 4096 in
/-- R93 and R94 on the list of 64: a hint of 512 takes the place of the entry of hint 511 and not of one of 512; a
pinned newcomer takes it too, at the tail of the pinned part; among equals the newcomer stands last, and a renewed one
as before. -/
theorem test_offers :
    let records := fun (s : State) => (s.offerCandidate 0).plan.candidates.map (fun c => c.record)
    (records (offering false 64 512)).drop 62 = [63, 64] ∧ (records (offering false 64 511)).drop 62 = [63, 0] ∧
      (records (offering true 63 512)).head? = some 0 ∧ (records (offering false 63 512)).drop 62 = [63, 0] ∧
      records (listing false false 512) = [1, 0, 2] ∧ records (listing false true 512) = [1, 2, 0] ∧
      records (listing true false 511) = [1, 0, 2] ∧ records (listing false false 511) = [1, 2] := by decide

/-- One window FREE: the write-back has it at the high mark, the promotion below (R110). -/
theorem test_one_window :
    let part := fun (n : Nat) => ({ lastWindow planning with map := { planning.map with slotCount := n } } : State)
    (after (.promotionStart 0) (part 3)).work.jobs = [] ∧
      (after (.writebackStart 0) (part 3)).work.jobs.map (fun j => j.id) = [7] ∧
      (after (.promotionStart 0) (part 1024)).work.jobs.map (fun j => j.id) = [7] := by decide

theorem test_promotionStart :
    let t := after (.promotionStart 0) planning
    t.work.dQueue = [⟨0, .platterRead 0 0 64⟩] ∧ t.heat.budget = 16320 ∧ t.pool.free = [] := by decide

theorem test_writebackStart :
    let s : State := { planning with plan := { planning.plan with candidates := [] }, map := { planning.map with slotCount := 8 } }
    (after (.writebackStart 0) s).work.migQueue = [⟨0, .slotRead 0 3 [100, 101]⟩] ∧
      (after (.writebackStart 0) s).plan.dirtyList = [] := by decide

/-- A head of density 512 waits for slots; the victim listed has density 0. Its slot 20 awaits retirement in the second
state. -/
def releasing : State :=
  { part [{ tracked 0 0 64 with heat := 512 }, mirrored 1 64 2 20] [] .stopped with
    plan := { Planner.reset with candidates := [⟨0, 512, false, 0⟩], victims := [⟨1, 0⟩] } }

def awaiting : State := { releasing with pool := { SlotPool.reset with pendingRetire := [⟨20, .record 1⟩] } }

theorem test_meets_ReleasesGiveSlots :
    (∀ s ∈ [releasing, awaiting], s.calm = true ∧ s.steady = true ∧ mirrored 1 64 2 20 ∈ s.records ∧
      ((Change.start s).release (mirrored 1 64 2 20)).fits = true ∧ s.jrn.lastJsn ≤ 4294967295) ∧
    (releasing.plan.candidates = ⟨0, 512, false, 0⟩ :: [] ∧ releasing.plan.victims = [] ++ ⟨1, 0⟩ :: [] ∧
      releasing.recordOf 0 = some { tracked 0 0 64 with heat := 512 } ∧
      releasing.recordOf 1 = some (mirrored 1 64 2 20) ∧ releasing.works = true ∧ releasing.supply.mode = .run ∧
      releasing.supply.warning = false ∧ releasing.stalled = false ∧ releasing.jrn.fault = none ∧
      64 ≤ releasing.heat.budget ∧
      releasing.params.tPromote ≤ { tracked 0 0 64 with heat := 512 }.density releasing.heat.epoch ∧
      releasing.pool.free.length + releasing.pool.quarantine.countP (fun q => !q.retire) <
        64 + releasing.params.reserveSlots ∧
      releasing.canTake false [.extentSet ({ tracked 0 0 64 with heat := 512 } : Rec).described] = true ∧
      releasing.isRetiring 1 = false ∧
      (mirrored 1 64 2 20).density releasing.heat.epoch + releasing.params.hysteresis < 512) ∧
    (awaiting.works = true ∧ awaiting.isRetiring 1 = true) ∧ extentsSound releasing.records :=
  ⟨by decide, by decide, by decide, ⟨by decide, by decide, by decide⟩⟩

/-- Entries that have become unfit beside one that only has an open write, and no victim that passes. -/
def unfitting : State :=
  { part
      [{ tracked 0 0 64 with heat := 512 }, { mirrored 1 64 2 20 with openWrites := 1 },
        { mirrored 2 66 2 22 with pinned := true }, tracked 3 68 2, mirrored 4 70 2 24] [] .stopped with
    plan := { Planner.reset with
      candidates := [⟨0, 512, false, 0⟩], victims := [⟨1, 0⟩, ⟨2, 0⟩, ⟨3, 0⟩, ⟨4, 0⟩, ⟨9, 0⟩] }
    pool := { SlotPool.reset with pendingRetire := [⟨24, .record 4⟩] } }

theorem test_meets_ReleasesGiveSlots_unfit :
    (unfitting.calm = true ∧ unfitting.steady = true ∧ unfitting.works = true ∧ unfitting.supply.mode = .run ∧
      unfitting.supply.warning = false ∧ unfitting.stalled = false ∧ unfitting.jrn.fault = none ∧
      unfitting.plan.candidates = ⟨0, 512, false, 0⟩ :: [] ∧
      unfitting.recordOf 0 = some { tracked 0 0 64 with heat := 512 } ∧ 64 ≤ unfitting.heat.budget ∧
      unfitting.params.tPromote ≤ { tracked 0 0 64 with heat := 512 }.density unfitting.heat.epoch ∧
      unfitting.pool.free.length + unfitting.pool.quarantine.countP (fun q => !q.retire) <
        64 + unfitting.params.reserveSlots ∧
      unfitting.canTake false [.extentSet ({ tracked 0 0 64 with heat := 512 } : Rec).described] = true ∧
      unfitting.plan.victims.all (fun v => (unfitting.recordOf v.record).all (fun x =>
        unfitting.unfit v || decide (0 < x.openWrites))) = true) ∧
    extentsSound unfitting.records := ⟨by decide, ⟨by decide, by decide, by decide⟩⟩

/-- R104: pinned, TRACKED, retiring and gone leave the list; an open write alone keeps its entry. -/
theorem test_victims_unfit : (after (.victimRelease 0) unfitting).plan.victims = [⟨1, 0⟩] := by decide

theorem test_victimRelease :
    (after (.victimRelease 0) releasing).records.map (fun r => r.state) = [.tracked, .tracked] ∧
      (after (.victimRelease 0) releasing).pool.quarantine = [⟨20, 1, false⟩, ⟨21, 1, false⟩] := by decide

theorem test_waitingRetirementRelease :
    (after (.waitingRetirementRelease 1 0) awaiting).pool.quarantine = [⟨20, 1, true⟩, ⟨21, 1, false⟩] ∧
      (after (.waitingRetirementRelease 1 0) awaiting).jrn.lastJsn = 2 := by decide

/-- Slot 15 of record 1, which holds grains 4 to 7 on slots 14 to 17, awaits retirement. -/
def pended (s : State) : State := { s with pool := { s.pool with pendingRetire := [⟨15, .record 1⟩] } }

/-- Its last open write, which created record 7. -/
def pendedWrite (now : Nat) : State :=
  pended
    { withWrite
        (part
          [{ mirrored 1 4 4 14 with openWrites := 1 }, { dirty 7 64 2 20 3 with openWrites := 1, absorbOpen := true }]
          [] .stopped)
        (openedAt 4 62 [⟨1, false⟩, ⟨7, true⟩]) with now := now }

/-- Its write-back, the write to the platter issued. -/
def pendedBack : State :=
  pended (withJob (part [{ dirty 1 4 4 14 3 with state := .writingBack }] [] .spinning)
    { id := 0, kind := .writeback 3, record := 1, first := 4, len := 4, stage := .two, cancel := false, attempts := 0 }
    [⟨0, .platterWrite 0 4 4 3⟩] [])

def pendedPart (r : Rec) : State :=
  let s := pended (part [r] [] .stopped)
  { s with plan := { Planner.reset with cursor := some 1 } }

theorem sound_pended (r : Rec) (h : r ∈ [{ mirrored 1 4 4 14 with pinned := true }, mirrored 1 4 4 14, dirty 1 4 4 14 6]) :
    extentsSound (pendedPart r).records := by
  revert h
  have : ∀ r ∈ [{ mirrored 1 4 4 14 with pinned := true }, mirrored 1 4 4 14, dirty 1 4 4 14 6],
      [r].Pairwise (fun a b => a.stop ≤ b.first) ∧ ([r].map (fun r => r.id)).Nodup ∧
        ∀ x ∈ [r], x.id < Config.recordPlaces ∧ 1 ≤ x.len ∧ x.len ≤ 64 ∧ bandOf x.first = bandOf (x.first + x.len - 1) := by
    decide
  exact this r

theorem sound_pendedBack : extentsSound pendedBack.records :=
  ⟨List.pairwise_singleton _ _, List.nodup_singleton _, by decide⟩

/-- Entries within the payload find room. -/
theorem room_pended (r : Rec) (es : List Entry) (h : (es.map Entry.size).sum ≤ 4064) : (pendedPart r).hasRoom es :=
  ⟨rfl, emptyPage 1, rfl, rfl, nofun, by rwa [show (emptyPage 1).used = 0 from rfl, Nat.zero_add]⟩

/-- The close and the timeout of the last write; an UNPIN; a DISCARD inside the record, MIRRORED and with its dirty
grains in the range, and of the whole; the FINISH of a write-back; and a visit of the sweep. -/
theorem test_meets_RetirementFollows :
    (∀ n ∈ [0, 10000],
      let s := pendedWrite n
      let w := openedAt 4 62 [⟨1, false⟩, ⟨7, true⟩]
      s.isRetiring 1 = true ∧ s.openWrite 0 = some w ∧ s.writes.handles.length = 32 ∧ s.enduring = true ∧
        s.awake = true ∧ s.serves .iLink 1 = true ∧ w.lists 1 = true ∧ w.creates 1 = false ∧
        (s.records.all (fun y => decide (y.id = 1) || s.unretired y)) = true ∧
        (n = 10000 ↔ w.opened + s.params.writeTimeout ≤ s.now)) ∧
    (∀ r ∈ [{ mirrored 1 4 4 14 with pinned := true }, mirrored 1 4 4 14, dirty 1 4 4 14 6],
      let s := pendedPart r
      s.isRetiring 1 = true ∧ s.serves .iLink 1 = true ∧ s.admits 5 2 = true ∧ s.admits 4 4 = true ∧
        r.met 5 2 = true ∧ r.met 4 4 = true ∧ s.jobsMet 5 2 = [] ∧ s.jobsMet 4 4 = [] ∧
        r.dirty &&& ~~~r.covered 5 2 = 0 ∧ s.works = true ∧ s.steady = true ∧ s.plan.cursor = some 1 ∧
        s.map.sweepNew = false) ∧
    (pendedBack.isRetiring 1 = true ∧ pendedBack.ready .dLink 1 = true ∧ pendedBack.enduring = true ∧
      pendedBack.calm = true ∧ pendedBack.serving = true ∧ pendedBack.fenceMet .dLink 0 0 = false ∧
      pendedBack.issuedOrder .dLink 0 0 = some ⟨0, .platterWrite 0 4 4 3⟩ ∧ (pendedBack.jobOf 0).isSome ∧
      (3 : Mask) &&& ~~~3 ||| 0 = 0) ∧
    extentsSound (pendedWrite 0).records ∧ extentsSound pendedBack.records ∧
    (pendedPart (dirty 1 4 4 14 6)).hasRoom [.extentSet (dirty 1 4 4 14 6).described, .slotRetire 15] :=
  ⟨by decide, by decide, by decide, ⟨by decide, by decide, by decide⟩, sound_pendedBack, room_pended _ _ (by decide)⟩

/-- The slots of the quarantine with their JSNs; those that leave it for the retired set. -/
def keyed (s : State) : List (Nat × Nat) := s.pool.quarantine.map (fun q => (q.slot, q.jsn))
def leaving (s : State) : List Nat := (s.pool.quarantine.filter (fun q => q.retire)).map (fun q => q.slot)

/-- Record 1 ends TRACKED and slot 15 is marked in the quarantine (R12, R86): keyed by JSN 1, the first entry, or by
JSN 2 behind the entry of the UNPIN or of the write-back. -/
theorem test_retirement_follows :
    let closed := after (.writeClose 1 0 0 0 0) (pendedWrite 0)
    keyed closed = [(14, 1), (15, 1), (16, 1), (17, 1)] ∧ leaving closed = [15] ∧ closed.jrn.lastJsn = 3 := by decide

theorem test_retirement_follows_unpin :
    let t := after (.unpin 1 4 4 0) (pendedPart { mirrored 1 4 4 14 with pinned := true })
    keyed t = [(14, 2), (15, 2), (16, 2), (17, 2)] ∧ leaving t = [15] := by decide

theorem test_retirement_follows_discard :
    let t := after (.discard 1 5 2 0) (pendedPart (dirty 1 4 4 14 6))
    keyed t = [(14, 2), (15, 2), (16, 2), (17, 2)] ∧ leaving t = [15] := by decide

theorem test_retirement_follows_finish :
    let t := after (.finish .dLink 1 0 0 0 none 0) pendedBack
    keyed t = [(14, 2), (15, 2), (16, 2), (17, 2)] ∧ leaving t = [15] := by decide

/-- Visits of a free place, of a cold record, of a failed write-back, of a MIRRORED record, and of the last place with
and without a walk that waits. -/
def swept (cursor : Nat) (waits : Bool) : State :=
  { part [tracked 0 0 4, { dirty 1 4 4 14 6 with wbFailed := true, attempts := 2 }, mirrored 2 8 2 30] [] .stopped with
    plan := { Planner.reset with cursor := some cursor, rebuild := some [], tickPending := waits } }

/-- And of a record made at the cursor. -/
theorem test_meets_SweepVisits :
    (∀ n ∈ [0, 1, 2, 3, 16383], ∀ b ∈ [false, true], (swept n b).works = true ∧ (swept n b).steady = true ∧
      (swept n b).calm = true ∧ (elsewhere (swept n b)).isRetiring n = false ∧ (swept n b).plan.cursor = some n ∧
      (swept n b).map.sweepNew = false) ∧
    ((swept 0 false).recordOf 0 = some (tracked 0 0 4) ∧ (swept 3 false).recordOf 3 = none ∧
      (swept 16383 false).recordOf 16383 = none ∧ (swept 2 false).recordOf 2 = some (mirrored 2 8 2 30) ∧
      (swept 2 false).plan.rebuild = some []) ∧
    (let s := (swept 0 false).setMap { (swept 0 false).map with sweepNew := true }
     s.works = true ∧ s.steady = true ∧ s.map.sweepNew = true ∧ s.plan.cursor = some 0) ∧
    ∀ n b, extentsSound (swept n b).records := by
  refine ⟨by decide, by decide, by decide, fun n b => ?_⟩
  show extentsSound [_, _, _]
  exact ⟨by decide, by decide, by decide⟩

/-- A walk at record 0, TRACKED and listed or pinned, or MIRRORED, with `n` victims under rebuild, of hints 500 and
up, and record 0's density at 512. -/
def rewalked (st : RecState) (listed pinned : Bool) (n : Nat) : State :=
  { part [{ record 0 0 64 st (if st = .tracked then [] else List.range' 10 64) 0 with heat := 512, pinned := pinned }] []
      .stopped with
    plan := { Planner.reset with
      candidates := if listed then [⟨0, 600, pinned, 0⟩] else []
      rebuild := some ((List.range n).map (fun i => ⟨i + 1, 500 + i⟩)), cursor := some 0 } }

/-- A listed record, a pinned one off the list, one at T_PROMOTE, and a MIRRORED one before 31 victims and before 32, the
last of hint 531. -/
theorem test_meets_SweepVisits_offers :
    (∀ s ∈ [rewalked .tracked true false 0, rewalked .tracked false true 0, rewalked .tracked false false 0,
        rewalked .mirrored false false 31, rewalked .mirrored false false 32],
      s.works = true ∧ s.steady = true ∧ s.calm = true ∧ s.isRetiring 0 = false ∧ s.plan.cursor = some 0 ∧
        s.map.sweepNew = false ∧ (s.recordOf 0).any (fun r => decide (r.density s.heat.epoch = 512)) = true) ∧
    (rewalked .mirrored false false 32).plan.rebuild =
      some (((List.range 31).map (fun i => ⟨i + 1, 500 + i⟩)) ++ [⟨32, 531⟩]) ∧
    ∀ st a b n, extentsSound (rewalked st a b n).records := by
  refine ⟨by decide, by decide, fun st a b n => ?_⟩
  exact ⟨List.pairwise_singleton _ _, List.nodup_singleton _, fun r h => by
    rw [List.mem_singleton.mp h]
    exact ⟨show 0 < 16384 by decide, show 1 ≤ 64 by decide, show 64 ≤ 64 by decide, show bandOf 0 = bandOf (0 + 64 - 1) by decide⟩⟩

/-- R102, check 6: at its place behind its equals; on the full list the last entry leaves, and a hint not below its own
is not entered. -/
theorem test_sweep_victims :
    let rebuilt := fun (s : State) => ((after (.sweepVisit 0) s).plan.rebuild.getD []).map (fun v => v.record)
    let full := rewalked .mirrored false false 32
    let low := { full with plan := { full.plan with rebuild := some ((List.range 32).map (fun i => ⟨i + 1, 481 + i⟩)) } }
    (rebuilt (rewalked .mirrored false false 31)).drop 12 = [13, 0] ++ List.range' 14 18 ∧
      (rebuilt full).drop 12 = [13, 0] ++ List.range' 14 18 ∧ rebuilt low = List.range' 1 32 := by decide

theorem test_sweepVisit :
    (after (.sweepVisit 0) (swept 0 false)).records.map (fun r => r.id) = [1, 2] ∧
      (after (.sweepVisit 0) (swept 1 false)).plan.dirtyList = [1] ∧
      (after (.sweepVisit 0) (swept 2 false)).plan.rebuild = some [⟨2, 0⟩] ∧
      (after (.sweepVisit 0) (swept 16383 true)).plan.cursor = some 0 := by decide

/-- A pass that is due, and passes in the records phase at a live record and a free place and in the retired phase. -/
def passing (phase : PassPhase) : State :=
  { mixedPart with
    pool := { mixedPart.pool with retired := [40, 41] }
    jrn := { mixedPart.jrn with pass := some { number := 1, beginPsn := 0, phase := phase, answers := false } } }

def passWanted : State := { mixedPart with jrn := { mixedPart.jrn with requested := true } }

/-- Passes due and not, with room and without, in RESTATE, in the records phase at a live record, one made at the cursor
and a free place, in the retired phase with slots left and none, and in JOURNAL_FAULT. -/
theorem test_meets_CheckpointPass :
    (∀ s ∈ [passWanted, packed passWanted, passing (.records 0), passing (.records 16383), passing (.retired none),
        passing (.retired (some 41)), packed (passing (.records 0)), packed (passing (.retired none)), mixedPart,
        faulted (passing (.records 0))],
      s.awake = true ∧ s.steady = true ∧ s.calm = true ∧ s.jrn.lastJsn ≤ 4294967295) ∧
    (passWanted.jrn.page ≠ none ∧ passWanted.jrn.pass = none ∧ passWanted.jrn.fault = none ∧
      passWanted.jrn.requested = true ∧ passWanted.canTake true [.ckptBegin 0] = true ∧
      (packed passWanted).canTake true [.ckptBegin 0] = false ∧ mixedPart.jrn.requested = false ∧
      mixedPart.jrn.head - mixedPart.jrn.tail < mixedPart.recovery.ringPages / 2) ∧
    ((passing (.records 0)).recordOf 0 = some (tracked 0 60 4) ∧ (passing (.records 0)).map.passNew = false ∧
      (passing (.records 16383)).recordOf 16383 = none ∧
      (passing (.retired none)).retiredSlots.filter (aboveLast none) = [40, 41] ∧
      (passing (.retired (some 41))).retiredSlots.filter (aboveLast (some 41)) = []) := by decide

theorem test_ckptBegin :
    (after (.ckptBegin 0) passWanted).jrn.pass = some { number := 0, beginPsn := 0, phase := .records 0, answers := false } ∧
      (after (.ckptBegin 0) passWanted).jrn.nextCkpt = 1 := by decide

theorem test_ckptRecord :
    (after (.ckptRecord 0) (passing (.records 0))).jrn.lastJsn = 1 ∧
      (after (.ckptRecord 0) (passing (.records 5))).jrn.lastJsn = 0 := by decide

theorem test_ckptRetired :
    ((after (.ckptRetired 0) (passing (.retired none))).jrn.page.map (fun p => p.entries)) = some [.ckptRetired [40, 41]] := by
  decide

theorem test_ckptEnd :
    ((after (.ckptEnd 0) (passing (.retired (some 41)))).jrn.page.map (fun p => p.entries)) = some [.ckptEnd 1] := by decide

/-- A record made at the cursor is not visited (R101, R154; log 49). -/
theorem test_made_at_cursor :
    (after (.sweepVisit 0) ((swept 0 false).setMap { (swept 0 false).map with sweepNew := true })).records.map (fun r => r.id) =
        [0, 1, 2] ∧
      (after (.ckptRecord 0) ((passing (.records 0)).setMap { (passing (.records 0)).map with passNew := true })).jrn.lastJsn =
        0 ∧
      (after (.ckptRecord 0) (faulted (passing (.records 5)))).jrn.pass = (passing (.records 5)).jrn.pass := by decide

def absorbed : Rec := { dirty 7 64 2 20 3 with absorbOpen := true }

/-- A slot of the absorption awaits retirement. -/
def withdrawnOut : State :=
  let s := resuming (part [absorbed] [] .stopped)
  { s with pool := { s.pool with pendingRetire := [⟨21, .record 7⟩] } }

theorem test_meets_WithdrawalDrops :
    (∀ s ∈ [resuming (part [absorbed] [] .stopped), packed (resuming (part [absorbed] [] .stopped)), withdrawnOut],
      s.awake = true ∧ s.steady = true ∧ s.recovery.service = .recovering ∧ s.recovery.phase = .resume ∧
        s.absorbOpens = [absorbed] ∧ s.jrn.lastJsn ≤ 4294967295) ∧
    ((Change.start (resuming (part [absorbed] [] .stopped))).drop absorbed).fits = true ∧
    ((Change.start (packed (resuming (part [absorbed] [] .stopped)))).drop absorbed).fits = false ∧
    (resuming (part [absorbed, { absorbed with id := 8, first := 66 }] [] .stopped)).absorbOpens =
      absorbed :: [{ absorbed with id := 8, first := 66 }] ∧
    extentsSound (part [absorbed] [] .stopped).records :=
  ⟨by decide, by decide, by decide, by decide, ⟨by decide, by decide, by decide⟩⟩

theorem test_withdrawal_retires :
    let t := after (.withdrawal 0) withdrawnOut
    t.pool.quarantine = [⟨20, 1, false⟩, ⟨21, 1, true⟩] ∧ t.pool.pendingRetire = [] ∧ t.jrn.lastJsn = 2 := by decide

theorem test_withdrawal :
    let t := after (.withdrawal 0) (resuming (part [absorbed] [] .stopped))
    t.serving = true ∧ t.records = [] ∧ noticesOn t .iLink = [.recoveryDone 1] := by decide

/-- A DIRTY record, a pinned one and one with open writes, through a command of each kind that takes no protection away,
and through those that end one. -/
theorem test_meets_FlashCopyKept :
    (let s := part [dirty 1 4 4 14 6, { mirrored 2 8 2 30 with pinned := true }, { mirrored 3 10 1 40 with openWrites := 1 }]
       [] .stopped
     extentsSound s.records ∧ s.serviceSound ∧ s.serving = true ∧ s.work.jobs = [] ∧
       (∀ i ∈ [Instr.locate 1 4 6 0, .unpin 1 8 2 0, .sync 1 0], (after i s).serving = true) ∧
       (dirty 1 4 4 14 6 ∈ s.records ∧ (dirty 1 4 4 14 6).onFlash = true) ∧
       { mirrored 2 8 2 30 with pinned := true } ∈ s.records ∧ { mirrored 3 10 1 40 with openWrites := 1 } ∈ s.records) ∧
    (∀ h, (part [] [] .stopped).openWrite h = none) ∧
    (written.serving = true ∧ (after (.writeClose 1 0 0 1 0) written).serving = true ∧
      { dirty 1 4 4 14 6 with openWrites := 1 } ∈ written.records ∧
      ∀ x ∈ written.createdBy (openedAt 4 62 [⟨1, false⟩, ⟨7, true⟩]), x.absorbOpen = true) := by
  refine ⟨⟨⟨by decide, by decide, by decide⟩, ⟨by decide, by decide, by decide⟩, by decide, by decide, by decide, by decide,
    by decide, by decide⟩, fun h => ?_, by decide⟩
  by_cases hh : h < 32
  · have : ∀ k, k < 32 → (part [] [] .stopped).openWrite k = none := by decide
    exact this h hh
  · show (((List.replicate 32 ({ gen := 0, write := none } : Handle)).getD h _).write) = none
    simp [List.getD, hh]

end Sys2Proof.Tests
end

section
/-! Proofs of chapter 2: the halving of heat with a record's age (R35, R36), and the density worked out from it with the
reciprocals (R39, R40). -/

namespace Sys2Proof.Proofs.Heat

open Sys2Proof.Machine

/-! ### Current heat -/

/-- An E at or above C gives age 0 (R35). -/
theorem currentHeat_of_le_epoch {r : Rec} {c : Nat} (h : c ≤ r.epoch) : r.currentHeat c = r.heat := by
  have hage : min (c - r.epoch) 16 = 0 := by omega
  simp [Rec.currentHeat, hage]

theorem currentHeat_epoch_add {n : Nat} (r : Rec) (h : n ≤ 16) :
    r.currentHeat (r.epoch + n) = r.heat / 2 ^ n := by
  have hage : min (r.epoch + n - r.epoch) 16 = n := by omega
  rw [Rec.currentHeat, hage]

/-- The shift stops at 16, which already empties a heat of 16 bits (R35). -/
theorem currentHeat_of_epoch_add_le {r : Rec} {c : Nat} (hheat : r.heat ≤ 65535) (h : r.epoch + 16 ≤ c) :
    r.currentHeat c = 0 := by
  have hage : min (c - r.epoch) 16 = 16 := by omega
  rw [Rec.currentHeat, hage]
  exact Nat.div_eq_of_lt (by omega)

theorem currentHeat_le_heat (r : Rec) (c : Nat) : r.currentHeat c ≤ r.heat := Nat.div_le_self _ _

@[simp] theorem touched_heat (r : Rec) (w c : Nat) : (r.touched w c).heat = min 65535 (r.currentHeat c + w) := rfl
@[simp] theorem touched_epoch (r : Rec) (w c : Nat) : (r.touched w c).epoch = c := rfl

theorem touched_frame (r : Rec) (w c : Nat) :
    r.touched w c = { r with heat := (r.touched w c).heat, epoch := (r.touched w c).epoch } := rfl

/-- A touched record has age 0 at the epoch of the touch (R36). -/
theorem currentHeat_touched (r : Rec) (w c : Nat) : (r.touched w c).currentHeat c = (r.touched w c).heat :=
  currentHeat_of_le_epoch (touched_epoch r w c).ge

/-- Settles O18: the shift is the age, cut off at 0 where E stands above C and at 16 from there on. -/
theorem currentHeatDecays : Obligations.CurrentHeatDecays := by
  unfold Obligations.CurrentHeatDecays
  intro r c hheat
  refine ⟨currentHeat_of_le_epoch, currentHeat_of_epoch_add_le hheat, ?halving, fun w => ?touch⟩
  case halving =>
    rintro n hn rfl
    exact currentHeat_epoch_add r hn
  case touch =>
    exact ⟨touched_heat r w c, touched_epoch r w c, currentHeat_touched r w c, touched_frame r w c⟩

/-! ### Reciprocals and density -/

theorem reciprocal_eq (len : Nat) : reciprocal len = min (4096 / len) 4095 := Nat.min_comm _ _

theorem reciprocal_le (len : Nat) : reciprocal len ≤ 4095 := Nat.min_le_left _ _

/-- The product of R40 keeps within 65,535 * 4,095, the widest heat by the widest reciprocal. -/
theorem currentHeat_mul_reciprocal_le {r : Rec} (hheat : r.heat ≤ 65535) (c : Nat) :
    r.currentHeat c * reciprocal r.len ≤ 268365825 :=
  calc r.currentHeat c * reciprocal r.len
    _ ≤ 65535 * 4095 := Nat.mul_le_mul ((currentHeat_le_heat r c).trans hheat) (reciprocal_le r.len)
    _ = 268365825 := by norm_num

theorem density_le {r : Rec} (hheat : r.heat ≤ 65535) (c : Nat) : r.density c ≤ 4193216 :=
  calc r.density c
    _ ≤ 268365825 / 64 := Nat.div_le_div_right (currentHeat_mul_reciprocal_le hheat c)
    _ = 4193216 := by norm_num

/-- For 64 grains the reciprocal is the divisor of R40. -/
theorem density_of_len_64 {r : Rec} (h : r.len = 64) (c : Nat) : r.density c = r.currentHeat c := by
  have hq : reciprocal r.len = 64 := by rw [h]; decide
  rw [Rec.density, hq, Nat.mul_div_cancel _ (by decide)]

theorem density_of_len_1 {r : Rec} (h : r.len = 1) (c : Nat) : r.density c = r.currentHeat c * 4095 / 64 := by
  have hq : reciprocal r.len = 4095 := by rw [h]; decide
  rw [Rec.density, hq]

/-- Settles O19: the 64 reciprocals are evaluated, and each bound is that of the heat times that of the reciprocal. -/
theorem densityFollows : Obligations.DensityFollows := by
  unfold Obligations.DensityFollows
  refine ⟨⟨fun len _ _ => reciprocal_eq len, by decide⟩, fun r c _ _ hheat => ?_⟩
  refine ⟨?formula, currentHeat_mul_reciprocal_le hheat c, density_le hheat c, fun hlen => density_of_len_64 hlen c,
    fun hlen hfull => ?greatest⟩
  case formula => rw [Rec.density, reciprocal_eq]
  case greatest => rw [density_of_len_1 hlen, hfull]

end Sys2Proof.Proofs.Heat
end
